-- ==== Sys2Proof/Word.lean ====
section
/-!
DEFINITION. The plainest types of the model: a byte of the link, the numbers 1 to 4 that name a meter
run or a table set (00_scope.md, naming conventions), and four like things kept one per run or set.
-/

namespace Sys2Proof

/-- A byte on the link (R183, R184). -/
abbrev Byte := BitVec 8

/-- A number 1 … 4. -/
inductive Num4
  | n1 | n2 | n3 | n4
  deriving DecidableEq, Repr

/-- A meter run, run 1 to run 4. -/
abbrev RunNo := Num4

/-- A table set, set 1 to set 4. -/
abbrev SetNo := Num4

/-- One thing for each of the numbers 1 … 4. -/
structure Four (α : Type) where
  n1 : α
  n2 : α
  n3 : α
  n4 : α
  deriving DecidableEq, Repr

namespace Num4

/-- The number as the link carries it. -/
def toNat : Num4 → Nat
  | n1 => 1
  | n2 => 2
  | n3 => 3
  | n4 => 4

/-- The run or set that a number names; none outside 1 … 4. -/
def ofNat? : Nat → Option Num4
  | 1 => some n1
  | 2 => some n2
  | 3 => some n3
  | 4 => some n4
  | _ => none

/-- Runs or sets in ascending order. -/
def all : List Num4 := [n1, n2, n3, n4]

end Num4

namespace Four

variable {α β : Type}

/-- The thing kept for one number. -/
def get (f : Four α) : Num4 → α
  | .n1 => f.n1
  | .n2 => f.n2
  | .n3 => f.n3
  | .n4 => f.n4

/-- Replace the thing kept for one number. -/
def set (f : Four α) (k : Num4) (a : α) : Four α :=
  match k with
  | .n1 => { f with n1 := a }
  | .n2 => { f with n2 := a }
  | .n3 => { f with n3 := a }
  | .n4 => { f with n4 := a }

/-- The same thing for every number. -/
def const (a : α) : Four α := ⟨a, a, a, a⟩

/-- Apply a function to each. -/
def map (g : α → β) (f : Four α) : Four β := ⟨g f.n1, g f.n2, g f.n3, g f.n4⟩

/-- The four in ascending order. -/
def toList (f : Four α) : List α := [f.n1, f.n2, f.n3, f.n4]

end Four

end Sys2Proof
end

