-- ==== Sys2Proof/Syntax.lean ====
section
/-!
DEFINITION. The commands of the KM408: one constructor for each row of spec/opcode_table.json, in the
table's order.

A row is a step of the part, whole and indivisible (95_what_each_step_holds.md). The rows from
FORWARD_DISPATCH to INVALID_OWN_FRAME and all request rows are dispatches of the frame at the head of the
inbound FIFO (R158, R176): what they carry (point id, counts, parameters, tag) is in that frame, so the
constructors have no operand of their own. The other rows name what the event is about: the strap
levels, the bytes received, the slot or run whose timer expires, the level of the ready line.
-/

namespace Sys2Proof

/-- A command: one step of the part. -/
inductive Instr
  /-- POWER_ON_RESET (R190). -/
  | powerOnReset
  /-- RESET_END (R190): the node-address straps and the link-rate straps as they stand at the end of the reset. -/
  | resetEnd (nodeStraps : BitVec 8) (rateStraps : BitVec 2)
  /-- RECEPTION_START (R155). -/
  | receptionStart
  /-- FRAME_END (R154): every byte received between the frame start and the frame end. -/
  | frameEnd (bytes : List Byte)
  /-- FORWARD_DISPATCH (R158). -/
  | forwardDispatch
  /-- PULSE_FRAME (R7). -/
  | pulseFrame
  /-- VALUE_FRAME (R10). -/
  | valueFrame
  /-- PASS_FRAME (R120). -/
  | passFrame
  /-- TRIGGER_FRAME (R161). -/
  | triggerFrame
  /-- INVALID_OWN_FRAME (R159). -/
  | invalidOwnFrame
  /-- STALE_TIMER_EXPIRY (R12) of the point in a slot, 1 … 15. -/
  | staleTimerExpiry (slot : Nat)
  /-- HOLD_TIMER_EXPIRY (R13) of the point in a slot, 1 … 15. -/
  | holdTimerExpiry (slot : Nat)
  /-- CLOSE_TIMER_EXPIRY (R22) of a run. -/
  | closeTimerExpiry (run : RunNo)
  /-- INTERFACE_TIMER_EXPIRY (R96). -/
  | interfaceTimerExpiry
  /-- PASS_TIMER_EXPIRY (R127) of the ACTIVE prove. -/
  | passTimerExpiry
  /-- ACCEPT_TIMER_EXPIRY (R132) of a run's prove. -/
  | acceptTimerExpiry (run : RunNo)
  /-- REPORT_PERIOD_EXPIRY (R173). -/
  | reportPeriodExpiry
  /-- IDLE_INTERVAL_REACHED (R170). -/
  | idleIntervalReached
  /-- STATION_TIME_ADVANCE (R181). -/
  | stationTimeAdvance
  /-- DOWNSTREAM_READY_CHANGE (R167): the level the line changes to. -/
  | downstreamReadyChange (level : Bool)
  /-- TRANSMISSION_START (R168). -/
  | transmissionStart
  /-- TRANSMISSION_COMPLETE (R168). -/
  | transmissionComplete
  /-- UNKNOWN_REQUEST (R176). -/
  | unknownRequest
  /-- MAP_POINT (R2). -/
  | mapPoint
  /-- UNMAP_POINT (R3). -/
  | unmapPoint
  /-- CONFIGURE_RUN (R17). -/
  | configureRun
  /-- CONFIGURE_HEADER (R18). -/
  | configureHeader
  /-- SET_RUN_SERVICE_OPEN (R21). -/
  | setRunServiceOpen
  /-- SET_RUN_SERVICE_CLOSE (R23). -/
  | setRunServiceClose
  /-- READ_LIVE (R24). -/
  | readLive
  /-- BEGIN_LOAD (R28). -/
  | beginLoad
  /-- LOAD_SEGMENT (R30). -/
  | loadSegment
  /-- COMMIT_SET (R32). -/
  | commitSet
  /-- DISCARD_SET (R35). -/
  | discardSet
  /-- READ_SET_INFO (R36). -/
  | readSetInfo
  /-- QUEUE_BATCH (R82). -/
  | queueBatch
  /-- CANCEL_BATCH (R83). -/
  | cancelBatch
  /-- CLOSE_BATCH (R86). -/
  | closeBatch
  /-- AMEND_TARGET (R84). -/
  | amendTarget
  /-- READ_SCHEDULE (R87). -/
  | readSchedule
  /-- READ_TICKET (R109). -/
  | readTicket
  /-- RELEASE_TICKET (R111). -/
  | releaseTicket
  /-- READ_TOTALS (R102). -/
  | readTotals
  /-- SEED_TOTALS (R103). -/
  | seedTotals
  /-- CONFIGURE_PROVER (R114). -/
  | configureProver
  /-- REQUEST_PROVE (R117). -/
  | requestProve
  /-- CANCEL_PROVE (R135). -/
  | cancelProve
  /-- ACCEPT_PROVE (R131). -/
  | acceptProve
  /-- REJECT_PROVE (R131). -/
  | rejectProve
  /-- READ_PROVE (R138). -/
  | readProve
  /-- CLEAR_SHIFT (R137). -/
  | clearShift
  /-- ACK_CONDITIONS (R150). -/
  | ackConditions
  /-- SET_LEVELS (R151). -/
  | setLevels
  /-- READ_CONDITIONS (R152). -/
  | readConditions
  /-- SET_INBOUND_POLICY (R157). -/
  | setInboundPolicy
  /-- SET_SLOT_PLAN (R166). -/
  | setSlotPlan
  /-- SET_REPORTING (R172). -/
  | setReporting
  /-- COMMISSION (R178). -/
  | commission
  /-- DECOMMISSION (R179). -/
  | decommission
  /-- RESTART (R180). -/
  | restart
  /-- SET_TIME (R181). -/
  | setTime
  /-- READ_STATUS (R182). -/
  | readStatus
  deriving DecidableEq, Repr

end Sys2Proof
end

