-- ==== Sys2Proof/Decode.lean ====
section
/-!
DEFINITION. The command that a word spells by the table's bits. No row of spec/opcode_table.json gives
bits (98_reader.md: n_rows_with_fields 0): a command of this part is an event, or a frame on its inbound
link, and the frame formats of Chapter 11 are read in Machine/Formats.lean.
-/

namespace Sys2Proof

/-- No row of the table gives bits, so no word spells a command. -/
def decodeTableWord (_nbits _w : Nat) : Option Instr := none

end Sys2Proof
end

