-- ==== Sys2Proof/Config.lean ====
section
/-!
DEFINITION. The constants of the data sheet, and the one free value of the model.
-/

namespace Sys2Proof.Config

/-- Frames the inbound FIFO holds (R155). -/
abbrev inboundCapacity : Nat := 16
/-- Frames the Forward Queue holds (R162). -/
abbrev forwardCapacity : Nat := 16
/-- Responses the response queue holds (R164). -/
abbrev responseCapacity : Nat := 8
/-- Tickets the Ticket Store holds (R104). -/
abbrev ticketCapacity : Nat := 16
/-- Entries of the batch schedule (R77). -/
abbrev scheduleCapacity : Nat := 8
/-- Slots of the point map (R1). -/
abbrev pointSlots : Nat := 15
/-- Entries of the condition table (R140). -/
abbrev conditionEntries : Nat := 121
/-- Entries a READ_CONDITIONS response carries at most (R152). -/
abbrev conditionsPerReading : Nat := 11
/-- Entries of a batch's proves list (R78). -/
abbrev provesListed : Nat := 8
/-- The run close timer, in ms (R22). -/
abbrev closeTimeMs : Nat := 10000
/-- The greatest flow rate; the rate saturates here (R51). -/
abbrev maxRate : Nat := 99999999
/-- The top of a totalizer (R100). -/
abbrev totalizerTop : Nat := 9999999999999999
/-- One past the top of a 32-bit counter. -/
abbrev counterModulus : Nat := 4294967296
/-- The top of the batch and raise sequences, which go on to 1 (R80, R144). -/
abbrev sequenceTop : Nat := 4294967295
/-- One in ppm (00_scope.md, units of measure). -/
abbrev ppm : Nat := 1000000

/-- FREE VALUE (DESIGN CHOICE, log 14): the bytes a field carries when the value does not fit the width
R183 gives the field, by the value and the byte's place. The spec states none; nothing here does. -/
opaque unfitByte : Int → Nat → BitVec 8

end Sys2Proof.Config
end

