-- ==== Sys2Proof/Machine/State.lean ====
section
/-!
DEFINITION. The state of the KM408, block by block as Figure 1 (00_scope.md) lists them, and its value
after a power-on reset. Quantities are integers in the fixed units of 00_scope.md; a timer is `none`
while stopped and `some e` while it runs toward the count `e` of the Timebase; an absent field is `none`.
-/

namespace Sys2Proof.Machine

/-! ### Points (Chapter 1) -/

/-- The role of a mapped point, with its run for the three run roles (R1). -/
inductive Role
  | pulse (run : RunNo)
  | runTemp (run : RunNo)
  | runPres (run : RunNo)
  | headerDens
  | headerWater
  | prover
  deriving DecidableEq, Repr

/-- The quality of a live value (R9). -/
inductive Quality
  | noData | good | held | substitute
  deriving DecidableEq, Repr

/-- The last sequence and epoch accepted for a point (R5). -/
structure SeqEpoch where
  seq : Nat
  epoch : Nat
  deriving DecidableEq, Repr

/-- The three cumulative counts of a PULSE frame, and the baselines of a PULSE point (R6, R7). -/
structure Counts where
  a : Nat
  b : Nat
  elapsed : Nat
  deriving DecidableEq, Repr

/-- The live value record of a point (R9). A field that the point's role lacks keeps its fresh value. -/
structure LiveRecord where
  quality : Quality
  last : Option SeqEpoch
  value : Option Int
  clamped : Bool
  aboveHigh : Bool
  staleTimer : Option Nat
  holdTimer : Option Nat
  base : Option Counts
  lastPass : Option Nat
  deriving DecidableEq, Repr

/-- An entry of the point map with its live value record (R1). -/
structure MapEntry where
  pointId : Nat
  role : Role
  record : LiveRecord
  deriving DecidableEq, Repr

/-- The header configuration (section 1.6). -/
structure HeaderConfig where
  densLow : Int
  densHigh : Int
  waterLow : Int
  waterHigh : Int
  waterSub : Int
  waterLimit : Int
  stale : Nat
  hold : Nat
  persistence : Nat
  deriving DecidableEq, Repr

/-- The Point Unit: slots 1 … 15, the first at the head, and the header configuration. -/
structure PointUnit where
  map : List (Option MapEntry)
  header : HeaderConfig
  deriving DecidableEq, Repr

/-! ### Run Units (Chapter 1) -/

/-- A run's configuration (section 1.6). -/
structure RunConfig where
  kmilli : Option Nat
  dual : Bool
  tolerance : Nat
  cutoff : Nat
  maxRate : Nat
  tempLow : Int
  tempHigh : Int
  tempSub : Int
  presLow : Int
  presHigh : Int
  presSub : Int
  stale : Nat
  hold : Nat
  deriving DecidableEq, Repr

/-- The state of a run (section 1.7). -/
inductive RunState
  | closed | idle | metering
  deriving DecidableEq, Repr

/-- A Run Unit (sections 1.6 and 1.7). -/
structure RunUnit where
  config : RunConfig
  configured : Bool
  state : RunState
  closePending : Bool
  closeTimer : Option Nat
  unbooked : Nat
  cutoffPulses : Nat
  deriving DecidableEq, Repr

/-! ### The Measurement Chain (Chapter 3) -/

/-- The factors of a booked frame, in ppm (R57 to R60). -/
structure Factors where
  mf : Nat
  ctl : Nat
  cpl : Nat
  ccf : Nat
  deriving DecidableEq, Repr

/-- The six condition flags of a run (R70). -/
structure RunFlags where
  flowingClosed : Bool
  aboveMax : Bool
  pulseMismatch : Bool
  curveLimit : Bool
  curveMissing : Bool
  gridLimit : Bool
  deriving DecidableEq, Repr

/-- The chain record of a run (R48). -/
structure ChainRecord where
  ivRes : Nat
  gsvRes : Nat
  nsvRes : Nat
  massRes : Nat
  lastRate : Option Nat
  lastFactors : Option Factors
  lastDegraded : Bool
  flags : RunFlags
  deriving DecidableEq, Repr

/-! ### The Table Store (Chapter 2) -/

/-- A point of a meter factor curve (R26). -/
structure CurvePoint where
  rate : Nat
  mf : Nat
  deriving DecidableEq, Repr

/-- A cell of the grid (R26). -/
structure GridCell where
  ctl : Nat
  f : Nat
  deriving DecidableEq, Repr

/-- A curve slot of a set (R26). -/
inductive CurveSlot
  | notLoaded
  | noCurve
  | curve (points : List CurvePoint)
  deriving DecidableEq, Repr

/-- The life of a set (R27). -/
inductive SetState
  | empty | loading | committed
  deriving DecidableEq, Repr

/-- The declared sizes of a set (R26). -/
structure Sizes where
  temp : Nat
  dens : Nat
  deriving DecidableEq, Repr

/-- A table set (R26). `rows` has one slot for each declared density index, index 1 at the head. -/
structure TableSet where
  state : SetState
  sizes : Option Sizes
  tempAxis : Option (List Int)
  densAxis : Option (List Int)
  rows : List (Option (List GridCell))
  curves : Four CurveSlot
  signature : Option (BitVec 32)
  deriving DecidableEq, Repr

/-! ### Batches (Chapter 4) -/

/-- The record of one run in a batch (R79). -/
structure RunRecord where
  pulses : Nat
  iv : Nat
  gsv : Nat
  nsv : Nat
  mass : Nat
  degraded : Nat
  sumT : Int
  sumP : Nat
  sumMf : Nat
  sumCtl : Nat
  sumCpl : Nat
  sumSw : Nat
  deriving DecidableEq, Repr

/-- The cause of a close (section 4.4). -/
inductive CloseCause
  | target | request | interface | decommission
  deriving DecidableEq, Repr

/-- The close-pending record of the active batch (R85). -/
structure ClosePending where
  cause : CloseCause
  since : Nat
  requestMark : Bool
  decommissionMark : Bool
  deriving DecidableEq, Repr

/-- A prove applied during a batch (R78, R108). -/
structure ProveApplied where
  run : RunNo
  shift : Nat
  time : Nat
  deriving DecidableEq, Repr

/-- A density window (R78). -/
structure DensityWindow where
  low : Int
  high : Int
  deriving DecidableEq, Repr

/-- An entry of the batch schedule (R78). -/
structure BatchEntry where
  nomination : Nat
  set : SetNo
  rho : Nat
  window : Option DensityWindow
  target : Option Nat
  closeOnInterface : Bool
  seq : Option Nat
  openTime : Nat
  openValid : Bool
  records : Four RunRecord
  proves : List ProveApplied
  further : Nat
  level3 : Nat
  closing : Option ClosePending
  deriving DecidableEq, Repr

/-- The interface detector with its timer (R95). -/
inductive Detector
  | inside
  | timing (expiry : Nat)
  | interface
  deriving DecidableEq, Repr

/-- The Batch Unit. -/
structure BatchUnit where
  schedule : List BatchEntry
  counter : Nat
  detector : Detector
  deriving DecidableEq, Repr

/-! ### Totalizers and tickets (Chapter 5) -/

/-- The four totalizers of a run (R100). -/
structure Totals where
  iv : Nat
  gsv : Nat
  nsv : Nat
  mass : Nat
  deriving DecidableEq, Repr

/-- The six averages of a run section (R107). -/
structure Averages where
  t : Int
  p : Nat
  mf : Nat
  ctl : Nat
  cpl : Nat
  sw : Nat
  deriving DecidableEq, Repr

/-- A run section of a ticket (R107). -/
structure RunSection where
  run : RunNo
  pulses : Nat
  iv : Nat
  gsv : Nat
  nsv : Nat
  mass : Nat
  degraded : Nat
  averages : Option Averages
  deriving DecidableEq, Repr

/-- A ticket (R105 to R108). -/
structure Ticket where
  seq : Nat
  nomination : Nat
  set : SetNo
  signature : BitVec 32
  cause : CloseCause
  openTime : Nat
  closeTime : Nat
  timeValid : Bool
  target : Option Nat
  overrun : Option Int
  pulses : Nat
  iv : Nat
  gsv : Nat
  nsv : Nat
  mass : Nat
  degraded : Nat
  sections : List RunSection
  proves : List ProveApplied
  further : Nat
  level3 : Nat
  deriving DecidableEq, Repr

/-! ### Proving (Chapter 6) -/

/-- The prover configuration (section 6.1). -/
structure ProverConfig where
  baseVolume : Nat
  alphaT : Nat
  betaP : Nat
  tref : Int
  passes : Nat
  maxPasses : Nat
  tolerance : Nat
  autoLimit : Nat
  passTimeout : Nat
  acceptTimeout : Nat
  deriving DecidableEq, Repr

/-- A pass record of the pass window (R122). -/
structure PassRecord where
  number : Nat
  mf : Nat
  rate : Nat
  gridLimit : Bool
  inputsGood : Bool
  deriving DecidableEq, Repr

/-- The result of a prove (R115, R128, R129). -/
structure ProveResult where
  mf : Nat
  rate : Nat
  mfc : Nat
  missing : Bool
  atLimit : Bool
  shift : Nat
  deviation : Option Nat
  deriving DecidableEq, Repr

/-- The outcomes of a prove, in the order of R119. -/
inductive ProveOutcome
  | applied | accepted | rejected | expired | rejectedLimit | failedRepeatability | notFlowing
  | abortedRunClosed | abortedGradeChange | abortedDecommission | abortedRequest | abortedTimeout
  deriving DecidableEq, Repr

/-- The state of a prove record with the fields present in it (R115). -/
inductive ProveState
  | none
  | queued
  | active (set : SetNo) (rho : Nat) (count : Nat) (window : List PassRecord) (passTimer : Nat)
  | pendingAccept (set : SetNo) (rho : Nat) (count : Nat) (result : ProveResult) (acceptTimer : Nat)
  deriving DecidableEq, Repr

/-- The last outcome of a run's proves (R115, R119). -/
structure LastOutcome where
  outcome : ProveOutcome
  time : Nat
  set : Option SetNo
  count : Option Nat
  result : Option ProveResult
  deriving DecidableEq, Repr

/-- The prove record of a run (R115). -/
structure ProveRecord where
  state : ProveState
  lastOutcome : Option LastOutcome
  deriving DecidableEq, Repr

/-- The Prover Unit; `config` is present once the prover is configured (R114). -/
structure ProverUnit where
  config : Option ProverConfig
  queue : List RunNo
  records : Four ProveRecord
  deriving DecidableEq, Repr

/-! ### Conditions and notices (Chapter 7) -/

/-- The eight classes, in the order of R141. -/
inductive CondClass
  | link | value | pulse | flow | batch | custody | prove | notice
  deriving DecidableEq, Repr

/-- The state of a condition entry (R140). -/
inductive CondState
  | normal | activeUnack | activeAck | returnedUnack
  deriving DecidableEq, Repr

/-- The stamp of the latest raise of an entry (R144). -/
structure RaiseStamp where
  time : Nat
  valid : Bool
  seq : Nat
  deriving DecidableEq, Repr

/-- A condition entry (R140). -/
structure CondEntry where
  state : CondState
  count : Nat
  raised : Option RaiseStamp
  pending : Bool
  deriving DecidableEq, Repr

/-- The level of each class (R141). -/
structure Levels where
  link : Nat
  value : Nat
  pulse : Nat
  flow : Nat
  batch : Nat
  custody : Nat
  prove : Nat
  notice : Nat
  deriving DecidableEq, Repr

/-- The device state (section 10.2). -/
inductive Device
  | uncommissioned | measuring | decommissioning
  deriving DecidableEq, Repr

/-- The state of a prove record as a notice or a response names it (R115). -/
inductive ProveStage
  | none | queued | active | pendingAccept
  deriving DecidableEq, Repr

/-- The content of a notice (R149). -/
inductive NoticeContent
  | batchChanged (opened : Option (Nat × Nat))
  | ticketClosed (seq : Nat) (held : Nat)
  | proveState (stage : ProveStage) (set : Option SetNo) (outcome : Option ProveOutcome)
      (shift : Option Nat) (deviation : Option Nat)
  | deviceState (device : Device)
  deriving DecidableEq, Repr

/-- A notice (R149). -/
structure Notice where
  content : Option NoticeContent
  time : Option Nat
  pending : Bool
  seq : Option Nat
  count : Nat
  deriving DecidableEq, Repr

/-- The seven notices (R149). -/
structure Notices where
  batchChanged : Notice
  ticketClosed : Notice
  proveState : Four Notice
  deviceState : Notice
  deriving DecidableEq, Repr

/-- The Condition Unit; entry 1 at the head of `entries`. -/
structure ConditionUnit where
  entries : List CondEntry
  levels : Levels
  raiseSeq : Nat
  notices : Notices
  deriving DecidableEq, Repr

/-! ### Frames and the Inbound Port (Chapters 8, 11) -/

/-- A frame on the link (R184). The length byte is the length of the payload. -/
structure Frame where
  dest : Byte
  src : Byte
  kind : Byte
  payload : List Byte
  crc : BitVec 16
  deriving DecidableEq, Repr

/-- The inbound drop policy (R155, R157). -/
inductive Policy
  | hold | dropNewest | dropOldestSample
  deriving DecidableEq, Repr

/-- The frame in reception, with or without a claim (R155). -/
inductive Reception
  | none | unclaimed | claimed
  deriving DecidableEq, Repr

/-- The Inbound Port; the head of the FIFO at the head of the list. -/
structure InboundPort where
  fifo : List Frame
  policy : Policy
  reception : Reception
  deriving DecidableEq, Repr

/-! ### Responses and the Outbound Port (Chapters 9, 10) -/

/-- The results of a response, in the order of R177. -/
inductive Result
  | done | pending | refusedState | refusedFull | refusedRange | refusedInUse | refusedOrder
  | refusedDuplicate | notFound | checkFailed | unknownRequest | badLength
  deriving DecidableEq, Repr

/-- A response waiting in the response queue (R176). -/
structure Response where
  dest : Byte
  tag : Byte
  kind : Byte
  result : Result
  payload : List Byte
  deriving DecidableEq, Repr

/-- What a slot of the slot plan may name (R165). -/
inductive Source
  | forward | result | response | condition | none
  deriving DecidableEq, Repr

/-- A slot of the slot plan (R165). -/
structure PlanSlot where
  primary : Source
  fallback : Source
  deriving DecidableEq, Repr

/-- The previous-frame kind (section 9.2). -/
inductive PreviousKind
  | response | other
  deriving DecidableEq, Repr

/-- The Outbound Port; busy while `sending` is present. -/
structure OutboundPort where
  plan : List PlanSlot
  pointer : Nat
  idleInterval : Nat
  previous : PreviousKind
  sending : Option Frame
  idleStart : Nat
  downstreamReady : Bool
  deriving DecidableEq, Repr

/-! ### The Report Unit (Chapter 9) -/

/-- A value in use with its quality and clamped flag, as a snapshot holds it (R171). -/
structure InUse where
  value : Int
  quality : Quality
  clamped : Bool
  deriving DecidableEq, Repr

/-- The run's GSV and NSV in the active batch (R171). -/
structure BatchVolumes where
  gsv : Nat
  nsv : Nat
  deriving DecidableEq, Repr

/-- The content of a run snapshot (R171). -/
structure RunSnapshot where
  state : RunState
  closePending : Bool
  rate : Option Nat
  temp : InUse
  pres : InUse
  factors : Option Factors
  degraded : Bool
  seq : Option Nat
  volumes : Option BatchVolumes
  nsvTotal : Nat
  deriving DecidableEq, Repr

/-- The content of a header snapshot (R171). -/
structure HeaderSnapshot where
  density : Option Int
  densQuality : Quality
  water : InUse
  aboveHigh : Bool
  seq : Option Nat
  nsv : Option Nat
  target : Option Nat
  closePending : Bool
  deriving DecidableEq, Repr

/-- A snapshot slot with its trigger settings (R171, R172). -/
structure SnapSlot (α : Type) where
  content : Option α
  pending : Bool
  coalesce : Nat
  reference : Option Int
  periodic : Bool
  change : Bool
  external : Bool
  batchChange : Bool
  deadband : Nat
  deriving DecidableEq, Repr

/-- The five snapshot slots (R171). -/
inductive SnapId
  | run (run : RunNo)
  | header
  deriving DecidableEq, Repr

/-- The Report Unit; the oldest entry of the result order at the head. -/
structure ReportUnit where
  period : Nat
  timer : Option Nat
  runSlots : Four (SnapSlot RunSnapshot)
  headerSlot : SnapSlot HeaderSnapshot
  order : List SnapId
  deriving DecidableEq, Repr

/-! ### The Management Unit (Chapter 10) -/

/-- The state the Management Unit owns, with the strap values (R180, R181, R190). -/
structure Management where
  device : Device
  stationTime : Nat
  timeValid : Bool
  secondStart : Nat
  nodeAddress : Nat
  linkRate : Nat
  deriving DecidableEq, Repr

/-! ### The whole part -/

/-- The state of the part, and the queue of the commands that are waiting. -/
structure State where
  /-- the part is held in reset: from POWER_ON_RESET until RESET_END (R190) -/
  held : Bool
  /-- the Timebase's millisecond count (R190) -/
  now : Nat
  mgmt : Management
  points : PointUnit
  runs : Four RunUnit
  chain : Four ChainRecord
  tables : Four TableSet
  /-- the Shift Table, by run and then by set (R39) -/
  shifts : Four (Four Nat)
  batch : BatchUnit
  totals : Four Totals
  tickets : List Ticket
  prover : ProverUnit
  cond : ConditionUnit
  reports : ReportUnit
  inbound : InboundPort
  forward : List Frame
  responses : List Response
  outbound : OutboundPort
  /-- the commands that are waiting, first in, first out -/
  pending : List Instr
  deriving DecidableEq, Repr

/-- Why the machine could stop with a fault. The data sheet gives the part no fault stop (INVENTORY.md,
Faults): whatever goes wrong is a condition, a refusing response, a discarded frame or a degraded
increment, so this type has no constructor and no meaning answers with a fault. -/
inductive Fault
  deriving DecidableEq, Repr

/-- Why a command could be refused. -/
inductive Refusal
  /-- A command whose meaning is not written; raised by an arm of `exec` alone. Safe: the run stops. Every
  command has its meaning, so no arm raises it. -/
  | notModelled (mnemonic : String)
  deriving DecidableEq, Repr

/-! ### After a power-on reset -/

/-- The power-on presets of a run's configuration (section 1.6). -/
def RunConfig.preset : RunConfig :=
  { kmilli := none, dual := false, tolerance := 0, cutoff := 0, maxRate := 99999999,
    tempLow := -5000, tempHigh := 15000, tempSub := 1500,
    presLow := 0, presHigh := 200000, presSub := 0, stale := 5000, hold := 60000 }

/-- The power-on header configuration (section 1.6). -/
def HeaderConfig.powerOn : HeaderConfig :=
  { densLow := 50000, densHigh := 120000, waterLow := 0, waterHigh := 1000000, waterSub := 0,
    waterLimit := 1000000, stale := 5000, hold := 60000, persistence := 60 }

/-- A Run Unit after a power-on reset (R25). -/
def RunUnit.powerOn : RunUnit :=
  { config := .preset, configured := false, state := .closed, closePending := false,
    closeTimer := none, unbooked := 0, cutoffPulses := 0 }

/-- All six condition flags clear. -/
def RunFlags.clear : RunFlags := ⟨false, false, false, false, false, false⟩

/-- A chain record after a power-on reset (R76). -/
def ChainRecord.powerOn : ChainRecord :=
  { ivRes := 0, gsvRes := 0, nsvRes := 0, massRes := 0, lastRate := none, lastFactors := none,
    lastDegraded := false, flags := .clear }

/-- An EMPTY set (R27, R46). -/
def TableSet.emptySet : TableSet :=
  { state := .empty, sizes := none, tempAxis := none, densAxis := none, rows := [],
    curves := .const .notLoaded, signature := none }

/-- A run record with nothing booked (R79). -/
def RunRecord.zero : RunRecord := ⟨0, 0, 0, 0, 0, 0, 0, 0, 0, 0, 0, 0⟩

/-- The class levels after a power-on reset (R141). -/
def Levels.powerOn : Levels := ⟨1, 2, 3, 2, 2, 3, 1, 1⟩

/-- A condition entry after either reset (R153). -/
def CondEntry.normal : CondEntry := ⟨.normal, 0, none, false⟩

/-- A notice after either reset (R153). -/
def Notice.blank : Notice := ⟨none, none, false, none, 0⟩

/-- The notices after either reset (R153). -/
def Notices.blank : Notices := ⟨.blank, .blank, .const .blank, .blank⟩

/-- A snapshot slot after a power-on reset (R172, R174). -/
def SnapSlot.powerOn {α : Type} : SnapSlot α :=
  { content := none, pending := false, coalesce := 0, reference := none, periodic := false,
    change := false, external := false, batchChange := false, deadband := 0 }

/-- The default slot plan (R165). -/
def PlanSlot.defaultPlan : List PlanSlot :=
  [⟨.forward, .result⟩, ⟨.response, .condition⟩, ⟨.forward, .response⟩, ⟨.condition, .result⟩]

/-- The machine right after a power-on reset: every block at the values its chapter gives, still held in
reset until RESET_END reads the straps (R190; log 6, log 7). -/
def State.reset : State :=
  { held := true
    now := 0
    mgmt := { device := .uncommissioned, stationTime := 0, timeValid := false, secondStart := 0,
              nodeAddress := 0, linkRate := 0 }
    points := { map := List.replicate Config.pointSlots none, header := .powerOn }
    runs := .const .powerOn
    chain := .const .powerOn
    tables := .const .emptySet
    shifts := .const (.const 1000000)
    batch := { schedule := [], counter := 0, detector := .inside }
    totals := .const ⟨0, 0, 0, 0⟩
    tickets := []
    prover := { config := none, queue := [], records := .const ⟨.none, none⟩ }
    cond := { entries := List.replicate Config.conditionEntries .normal, levels := .powerOn,
              raiseSeq := 0, notices := .blank }
    reports := { period := 0, timer := none, runSlots := .const .powerOn, headerSlot := .powerOn,
                 order := [] }
    inbound := { fifo := [], policy := .hold, reception := .none }
    forward := []
    responses := []
    outbound := { plan := PlanSlot.defaultPlan, pointer := 1, idleInterval := 100,
                  previous := .other, sending := none, idleStart := 0, downstreamReady := false }
    pending := [] }

end Sys2Proof.Machine
end

