-- ==== Sys2Proof/Machine/Formats.lean ====
section
/-!
DEFINITION. Bytes: the field encodings of Chapter 11 (R183), the two CRCs (R34, R185), the frame
envelope (R184), and the rounding of 00_scope.md that every chapter uses.
-/

namespace Sys2Proof.Machine

/-! ### Arithmetic conventions (00_scope.md) -/

/-- **round**: `n / d` to the nearest integer, a tie going away from zero; `d` is positive. -/
def roundDiv (n : Int) (d : Nat) : Int :=
  if 0 ≤ n then (2 * n + d) / (2 * d) else -((2 * -n + d) / (2 * d))

/-- `round` of a quotient that is not negative. -/
def roundNat (n d : Nat) : Nat := (2 * n + d) / (2 * d)

/-- A counter that stays at its top once it has reached it. -/
def saturate (top n : Nat) : Nat := if n < top then n else top

/-! ### Fields (R183) -/

/-- `v` in `w` bytes, most-significant byte first. -/
def bigEndian : Nat → Nat → List Byte
  | 0, _ => []
  | w + 1, v => BitVec.ofNat 8 (v / 256 ^ w) :: bigEndian w v

/-- The free bytes of a value that does not fit its field (log 14). -/
def unfit (w : Nat) (v : Int) : List Byte := (List.range w).map (Config.unfitByte v)

/-- A field of `w` bytes that is not signed. -/
def field (w v : Nat) : List Byte := if v < 256 ^ w then bigEndian w v else unfit w v

/-- A signed field of `w` bytes, in two's complement. -/
def signedField (w : Nat) (v : Int) : List Byte :=
  if -(256 ^ w : Int) ≤ 2 * v ∧ 2 * v < 256 ^ w then bigEndian w (v % (256 ^ w : Int)).toNat
  else unfit w v

/-- A flag: 1 for set and 0 for clear. -/
def flag (b : Bool) : List Byte := [if b then 1 else 0]

/-- One byte: an enumeration code or a small number. -/
def byte (n : Nat) : List Byte := field 1 n

/-- An optional field: a presence byte and the field at its full width, zeros when absent. -/
def optional {α : Type} (w : Nat) (enc : α → List Byte) : Option α → List Byte
  | none => 0 :: List.replicate w 0
  | some a => 1 :: enc a

/-- The number that bytes spell, most-significant byte first. -/
def natOf (bs : List Byte) : Nat := bs.foldl (fun n b => n * 256 + b.toNat) 0

/-- The signed number that bytes spell in two's complement. -/
def intOf (bs : List Byte) : Int :=
  if 2 * natOf bs < 256 ^ bs.length then natOf bs else (natOf bs : Int) - 256 ^ bs.length

/-- The `w` bytes of a payload from an offset. -/
def slice (off w : Nat) (bs : List Byte) : List Byte := (bs.drop off).take w

/-- A field of a received payload that is not signed. -/
def natAt (off w : Nat) (bs : List Byte) : Nat := natOf (slice off w bs)

/-- A signed field of a received payload. -/
def intAt (off w : Nat) (bs : List Byte) : Int := intOf (slice off w bs)

/-- A flag of a received payload: any non-zero byte reads as set. -/
def flagAt (off : Nat) (bs : List Byte) : Bool := natAt off 1 bs != 0

/-- An optional number of a received payload: a presence byte, then the field. Any presence byte but 0 reads
as present, like a flag; R183 gives 1 and 0 alone (the model's choice, log 36). -/
def optionalAt (off w : Nat) (bs : List Byte) : Option Nat :=
  if flagAt off bs then some (natAt (off + 1) w bs) else none

/-! ### Enumerations, numbered from 0 in the order of their owning rule (R183) -/

/-- R1, the table of roles. -/
def Role.code : Role → Nat
  | .pulse _ => 0 | .runTemp _ => 1 | .runPres _ => 2 | .headerDens => 3 | .headerWater => 4 | .prover => 5

/-- The run number of a role, absent for the header and prover roles (R1). -/
def Role.run? : Role → Option RunNo
  | .pulse r | .runTemp r | .runPres r => some r
  | .headerDens | .headerWater | .prover => none

/-- R9. -/
def Quality.code : Quality → Nat
  | .noData => 0 | .good => 1 | .held => 2 | .substitute => 3

/-- Section 1.7. -/
def RunState.code : RunState → Nat
  | .closed => 0 | .idle => 1 | .metering => 2

/-- R27. -/
def SetState.code : SetState → Nat
  | .empty => 0 | .loading => 1 | .committed => 2

/-- R26: NOT_LOADED, NO_CURVE or a curve. -/
def CurveSlot.code : CurveSlot → Nat
  | .notLoaded => 0 | .noCurve => 1 | .curve _ => 2

/-- R85. -/
def CloseCause.code : CloseCause → Nat
  | .target => 0 | .request => 1 | .interface => 2 | .decommission => 3

/-- R95. -/
def Detector.code : Detector → Nat
  | .inside => 0 | .timing _ => 1 | .interface => 2

/-- R115. -/
def ProveStage.code : ProveStage → Nat
  | .none => 0 | .queued => 1 | .active => 2 | .pendingAccept => 3

/-- The stage of a prove record (R115). -/
def ProveState.stage : ProveState → ProveStage
  | .none => .none
  | .queued => .queued
  | .active .. => .active
  | .pendingAccept .. => .pendingAccept

/-- R119, the table of outcomes. -/
def ProveOutcome.code : ProveOutcome → Nat
  | .applied => 0 | .accepted => 1 | .rejected => 2 | .expired => 3 | .rejectedLimit => 4
  | .failedRepeatability => 5 | .notFlowing => 6 | .abortedRunClosed => 7 | .abortedGradeChange => 8
  | .abortedDecommission => 9 | .abortedRequest => 10 | .abortedTimeout => 11

/-- R141. -/
def CondClass.code : CondClass → Nat
  | .link => 0 | .value => 1 | .pulse => 2 | .flow => 3 | .batch => 4 | .custody => 5 | .prove => 6
  | .notice => 7

/-- The class of a code; none beyond the last (R141, R183). -/
def CondClass.ofCode? : Nat → Option CondClass
  | 0 => some .link | 1 => some .value | 2 => some .pulse | 3 => some .flow | 4 => some .batch
  | 5 => some .custody | 6 => some .prove | 7 => some .notice | _ => none

/-- R140. -/
def CondState.code : CondState → Nat
  | .normal => 0 | .activeUnack => 1 | .activeAck => 2 | .returnedUnack => 3

/-- R183: UNCOMMISSIONED is 0, MEASURING 1 and DECOMMISSIONING 2. -/
def Device.code : Device → Nat
  | .uncommissioned => 0 | .measuring => 1 | .decommissioning => 2

/-- R157. -/
def Policy.code : Policy → Nat
  | .hold => 0 | .dropNewest => 1 | .dropOldestSample => 2

/-- The policy of a code; none beyond the last (R157, R183). -/
def Policy.ofCode? : Nat → Option Policy
  | 0 => some .hold | 1 => some .dropNewest | 2 => some .dropOldestSample | _ => none

/-- The source of a code; none beyond the last (R165, R183). -/
def Source.ofCode? : Nat → Option Source
  | 0 => some .forward | 1 => some .result | 2 => some .response | 3 => some .condition
  | 4 => some .none | _ => none

/-- R177: the results run from DONE 0 to BAD_LENGTH 11 (R183). -/
def Result.code : Result → Nat
  | .done => 0 | .pending => 1 | .refusedState => 2 | .refusedFull => 3 | .refusedRange => 4
  | .refusedInUse => 5 | .refusedOrder => 6 | .refusedDuplicate => 7 | .notFound => 8
  | .checkFailed => 9 | .unknownRequest => 10 | .badLength => 11

/-! ### The two CRCs -/

/-- One bit of the link CRC: generator 0x1021, most-significant bit first (R185). -/
def crc16Bit (c : BitVec 16) : BitVec 16 := if c.msb then (c <<< 1) ^^^ 0x1021#16 else c <<< 1

/-- One byte of the link CRC. -/
def crc16Byte (c : BitVec 16) (b : Byte) : BitVec 16 :=
  Nat.repeat crc16Bit 8 (c ^^^ (b.setWidth 16 <<< 8))

/-- The CRC-16 of a frame's bytes: the register starts at 0xFFFF, no final inversion (R185). -/
def crc16 (bs : List Byte) : BitVec 16 := bs.foldl crc16Byte 0xFFFF#16

/-- One bit of the signature CRC: generator 0x04C11DB7 taken least-significant bit first, which is
0xEDB88320 with the register mirrored (R34). -/
def crc32Bit (c : BitVec 32) : BitVec 32 :=
  if c.getLsbD 0 then (c >>> 1) ^^^ 0xEDB88320#32 else c >>> 1

/-- One byte of the signature CRC. -/
def crc32Byte (c : BitVec 32) (b : Byte) : BitVec 32 :=
  Nat.repeat crc32Bit 8 (c ^^^ b.setWidth 32)

/-- The CRC-32 of a canonical image: the register starts at all ones and is inverted at the end (R34). -/
def crc32 (bs : List Byte) : BitVec 32 := ~~~(bs.foldl crc32Byte 0xFFFFFFFF#32)

/-! ### The frame envelope (R184) -/

/-- Everything of a frame before its CRC, which is what the CRC covers (R185). -/
def envelope (dest src kind : Byte) (payload : List Byte) : List Byte :=
  dest :: src :: kind :: BitVec.ofNat 8 payload.length :: payload

/-- A frame with its CRC, as the Outbound Port or a sender forms it (R185). -/
def makeFrame (dest src kind : Byte) (payload : List Byte) : Frame :=
  { dest, src, kind, payload, crc := crc16 (envelope dest src kind payload) }

/-- The bytes of a frame on the link, the CRC most-significant byte first (R184, R185). -/
def Frame.wire (f : Frame) : List Byte :=
  envelope f.dest f.src f.kind f.payload ++ field 2 f.crc.toNat

/-- The check at a frame end (R154): the length field matches the payload bytes received and is at most
248, and the CRC agrees. Fewer than six bytes hold no envelope and fail it (log 27). -/
def parseFrame : List Byte → Option Frame
  | dest :: src :: kind :: len :: rest =>
    let payload := rest.take len.toNat
    let crc := BitVec.ofNat 16 (natOf (rest.drop len.toNat))
    if len.toNat ≤ 248 ∧ rest.length = len.toNat + 2 ∧ crc16 (dest :: src :: kind :: len :: payload) = crc
    then some { dest, src, kind, payload, crc }
    else none
  | _ => none

/-! ### Frame kinds (R184) -/

/-- Frame kind codes. -/
abbrev kindPulse : Byte := 1
abbrev kindValue : Byte := 2
abbrev kindPass : Byte := 3
abbrev kindTrigger : Byte := 4
abbrev kindRequest : Byte := 5
abbrev kindResponse : Byte := 6
abbrev kindIdle : Byte := 7
abbrev kindSnapshot : Byte := 8
abbrev kindReport : Byte := 9

/-- The broadcast destination (section 8.1). -/
abbrev broadcast : Byte := 255
/-- The station node (section 8.1). -/
abbrev stationNode : Byte := 0

/-- A frame of one of the kinds DROP_OLDEST_SAMPLE removes (R156). -/
def Frame.isSample (f : Frame) : Bool :=
  f.kind == kindPulse || f.kind == kindValue || f.kind == kindPass

end Sys2Proof.Machine
end

