-- ==== Sys2Proof/Machine/Ops.lean ====
section
/-!
DEFINITION. The named operations over the state: the parts of it by run, set and slot, the clock and its
timers, the own node, the active batch, the records that hold a role, and the values in use.
-/

namespace Sys2Proof.Machine

/-! ### Parts of the state by run and set -/

/-- The Run Unit of a run. -/
def State.run (s : State) (r : RunNo) : RunUnit := s.runs.get r

/-- Replace the Run Unit of a run. -/
def State.setRun (s : State) (r : RunNo) (u : RunUnit) : State := { s with runs := s.runs.set r u }

/-- The chain record of a run. -/
def State.chainOf (s : State) (r : RunNo) : ChainRecord := s.chain.get r

/-- Replace the chain record of a run. -/
def State.setChain (s : State) (r : RunNo) (c : ChainRecord) : State :=
  { s with chain := s.chain.set r c }

/-- A table set. -/
def State.tableSet (s : State) (k : SetNo) : TableSet := s.tables.get k

/-- Replace a table set. -/
def State.setTable (s : State) (k : SetNo) (t : TableSet) : State :=
  { s with tables := s.tables.set k t }

/-- The curve shift of a run and set (R39). -/
def State.shift (s : State) (r : RunNo) (k : SetNo) : Nat := (s.shifts.get r).get k

/-- Write the curve shift of a run and set. -/
def State.setShift (s : State) (r : RunNo) (k : SetNo) (v : Nat) : State :=
  { s with shifts := s.shifts.set r ((s.shifts.get r).set k v) }

/-- The totalizers of a run. -/
def State.totalsOf (s : State) (r : RunNo) : Totals := s.totals.get r

/-- Replace the totalizers of a run. -/
def State.setTotals (s : State) (r : RunNo) (t : Totals) : State :=
  { s with totals := s.totals.set r t }

/-- The prove record of a run. -/
def State.prove (s : State) (r : RunNo) : ProveRecord := s.prover.records.get r

/-- Replace the prove record of a run. -/
def State.setProve (s : State) (r : RunNo) (p : ProveRecord) : State :=
  { s with prover := { s.prover with records := s.prover.records.set r p } }

/-- Replace the batch schedule. -/
def State.setSchedule (s : State) (l : List BatchEntry) : State :=
  { s with batch := { s.batch with schedule := l } }

/-- Replace the interface detector. -/
def State.setDetector (s : State) (d : Detector) : State :=
  { s with batch := { s.batch with detector := d } }

/-! ### The clock (R190; log 3, log 4) -/

/-- The count at which a timer started now with a time in ms expires. -/
def State.expiryIn (s : State) (ms : Nat) : Nat := s.now + ms

/-- The milliseconds remaining to the expiry of a timer; none while it is stopped (R24). -/
def State.remaining (s : State) (timer : Option Nat) : Option Nat := timer.map (· - s.now)

/-- Time passes until a count is reached; nothing changes where it is reached already (log 4). -/
def State.passTo (s : State) (count : Nat) : State := { s with now := max s.now count }

/-- One millisecond passes, while the part is not held in reset (R190: the reset end starts the Timebase;
log 3). -/
def State.tick (s : State) : State := if s.held then s else { s with now := s.now + 1 }

/-- An event of a part that is out of reset; a part held in reset takes none (R190; log 5). -/
def State.whenRunning (s : State) (event : State → State) : State := if s.held then s else event s

/-! ### Node and device -/

/-- The own node: a strap address of 1 … 239 (R180). -/
def State.ownNode (s : State) : Option Nat :=
  if 1 ≤ s.mgmt.nodeAddress ∧ s.mgmt.nodeAddress ≤ 239 then some s.mgmt.nodeAddress else none

/-- The device is UNCOMMISSIONED. -/
def State.uncommissioned (s : State) : Bool := s.mgmt.device == .uncommissioned

/-! ### The active batch (R77) -/

/-- The active batch: the head of the schedule while the device is MEASURING or DECOMMISSIONING. -/
def State.activeBatch (s : State) : Option BatchEntry :=
  if s.uncommissioned then none else s.batch.schedule.head?

/-- Change the active batch; nothing where no batch is active. -/
def State.mapActive (s : State) (f : BatchEntry → BatchEntry) : State :=
  if s.uncommissioned then s
  else match s.batch.schedule with
    | [] => s
    | b :: rest => s.setSchedule (f b :: rest)

/-- The batch NSV: the sum of the four run records' NSV (R79). -/
def BatchEntry.nsv (b : BatchEntry) : Nat := (b.records.toList.map RunRecord.nsv).sum

/-- The active batch has a close-pending record (R85). -/
def State.closePendingFlag (s : State) : Bool :=
  match s.activeBatch with
  | some b => b.closing.isSome
  | none => false

/-- The next batch sequence or raise sequence: 4,294,967,295 goes on to 1 (R80, R144). -/
def nextSequence (n : Nat) : Nat := if n = Config.sequenceTop then 1 else n + 1

/-! ### The point map (R1) -/

/-- The mapped entries with their slots, in slot order. -/
def State.mapped (s : State) : List (Nat × MapEntry) :=
  (s.points.map.zipIdx 1).filterMap fun (e, slot) => e.map fun e => (slot, e)

/-- The slot and entry that hold a point id. -/
def State.findPoint (s : State) (pointId : Nat) : Option (Nat × MapEntry) :=
  s.mapped.find? fun e => e.2.pointId == pointId

/-- The slot and entry that hold a role. -/
def State.findRole (s : State) (role : Role) : Option (Nat × MapEntry) :=
  s.mapped.find? fun e => decide (e.2.role = role)

/-- The entry of a slot; none where the slot is free or is none of 1 … 15. -/
def State.slotEntry (s : State) (slot : Nat) : Option MapEntry :=
  (s.mapped.find? fun e => e.1 == slot).map (·.2)

/-- Fill or free a slot. -/
def State.setSlot (s : State) (slot : Nat) (e : Option MapEntry) : State :=
  { s with points := { s.points with map := s.points.map.set (slot - 1) e } }

/-- The lowest-numbered free slot (R2). -/
def State.freeSlot (s : State) : Option Nat :=
  ((s.points.map.zipIdx 1).find? fun e => e.1.isNone).map (·.2)

/-- The configured range, substitute and timers of a value role (R9); the header configuration has no
density substitute. -/
structure ValueConfig where
  low : Int
  high : Int
  sub : Option Int
  stale : Nat
  hold : Nat
  deriving DecidableEq, Repr

/-- The configuration that governs the points of a role: the run's for RUN_TEMP and RUN_PRES, the
header's for HEADER_DENS and HEADER_WATER; none for the roles without a value (R9). -/
def State.valueConfig (s : State) : Role → Option ValueConfig
  | .runTemp r =>
    let c := (s.run r).config
    some ⟨c.tempLow, c.tempHigh, some c.tempSub, c.stale, c.hold⟩
  | .runPres r =>
    let c := (s.run r).config
    some ⟨c.presLow, c.presHigh, some c.presSub, c.stale, c.hold⟩
  | .headerDens =>
    let h := s.points.header
    some ⟨h.densLow, h.densHigh, none, h.stale, h.hold⟩
  | .headerWater =>
    let h := s.points.header
    some ⟨h.waterLow, h.waterHigh, some h.waterSub, h.stale, h.hold⟩
  | .pulse _ | .prover => none

/-- The fresh record of a role: NO_DATA with the substitute in force as its value (R9). -/
def State.freshRecord (s : State) (role : Role) : LiveRecord :=
  { quality := .noData, last := none, value := (s.valueConfig role).bind (·.sub), clamped := false,
    aboveHigh := false, staleTimer := none, holdTimer := none, base := none, lastPass := none }

/-! ### Values in use (R15, R56) -/

/-- The quality a value is used with: a record in NO_DATA carries its substitute value and is used as a
SUBSTITUTE value (R15, R56). -/
def Quality.used : Quality → Quality
  | .noData | .substitute => .substitute
  | .good => .good
  | .held => .held

/-- The value in use of a role that has a substitute, as the chain reads it: its record's, or NO_DATA with
the substitute where no point holds the role (R15, R56). -/
def State.inUse (s : State) (role : Role) (sub : Int) : InUse :=
  match s.findRole role with
  | some (_, e) => ⟨e.record.value.getD sub, e.record.quality.used, e.record.clamped⟩
  | none => ⟨sub, .noData, false⟩

/-- The run's temperature in use. -/
def State.tempInUse (s : State) (r : RunNo) : InUse :=
  s.inUse (.runTemp r) (s.run r).config.tempSub

/-- The run's pressure in use. -/
def State.presInUse (s : State) (r : RunNo) : InUse :=
  s.inUse (.runPres r) (s.run r).config.presSub

/-- The header's water content in use. -/
def State.waterInUse (s : State) : InUse := s.inUse .headerWater s.points.header.waterSub

/-- The HEADER_DENS value in use; none in a record that holds none and where the role is not mapped (R94). -/
def State.densInUse (s : State) : Option Int :=
  match s.findRole .headerDens with
  | some (_, e) => e.record.value
  | none => none

/-- An input is good when its quality is GOOD and it is not clamped (R56). -/
def InUse.good (v : InUse) : Bool := v.quality == .good && !v.clamped

/-! ### Occupancies -/

/-- Claims of frames in reception, 0 or 1 (R155). -/
def Reception.claims : Reception → Nat
  | .claimed => 1
  | .none | .unclaimed => 0

/-- The inbound ready line (R155). -/
def State.inboundReady (s : State) : Bool :=
  match s.inbound.policy with
  | .hold => decide (s.inbound.fifo.length + s.inbound.reception.claims < Config.inboundCapacity)
  | .dropNewest | .dropOldestSample => true

/-- The fill state of the inbound FIFO: LOW 0, HALF 1, FULL 2 (R155, R187). -/
def State.fillState (s : State) : Nat :=
  if s.inbound.fifo.length < 8 then 0 else if s.inbound.fifo.length < 16 then 1 else 2

/-- A prove is ACTIVE in a record (R115). -/
def ProveState.isActive : ProveState → Bool
  | .active .. => true
  | .none | .queued | .pendingAccept .. => false

/-- The run whose prove is ACTIVE, if any (R115). -/
def State.activeProve (s : State) : Option RunNo :=
  Num4.all.find? fun r => (s.prove r).state.isActive

/-- The set that a prove in ACTIVE or PENDING_ACCEPT recorded (R37). -/
def ProveState.recordedSet : ProveState → Option SetNo
  | .active k _ _ _ _ => some k
  | .pendingAccept k _ _ _ _ => some k
  | .none | .queued => .none

/-- A prove in ACTIVE or PENDING_ACCEPT names a set (R37). -/
def State.proveNames (s : State) (k : SetNo) : Bool :=
  Num4.all.any fun r => (s.prove r).state.recordedSet == some k

/-- The number of schedule entries that name a set (R36). -/
def State.batchReferences (s : State) (k : SetNo) : Nat :=
  (s.batch.schedule.filter fun b => decide (b.set = k)).length

/-- A set is referenced while a schedule entry, an ACTIVE prove or a prove pending acceptance names it
(R37). -/
def State.referenced (s : State) (k : SetNo) : Bool :=
  decide (0 < s.batchReferences k) || s.proveNames k

end Sys2Proof.Machine
end

