-- ==== Sys2Proof/Machine/Flags.lean ====
section
/-!
DEFINITION. The Condition Unit (Chapter 7): the condition table, raises, returns and acknowledgements,
the summary level, and the notices; and `Work`, a state with the notice events of the event in hand.
-/

namespace Sys2Proof.Machine

/-! ### The condition table (R140) -/

/-- The kinds of condition, in the order of R140's table. -/
inductive CondKind
  | seqGap | frontendRestart | frameImplausible | valueHeld | valueSubstituted | valueClamped
  | pulseMismatch | flowAboveMax | curveLimit | curveMissing | gridLimit | oosFlow
  | checkError | inboundDrop | unmappedPoint | interface | overTarget | ticketStoreFull | strayPass
  deriving DecidableEq, Repr

/-- The first entry of a kind's block (R140). -/
def CondKind.first : CondKind → Nat
  | .seqGap => 1 | .frontendRestart => 16 | .frameImplausible => 31 | .valueHeld => 46
  | .valueSubstituted => 61 | .valueClamped => 76 | .pulseMismatch => 91 | .flowAboveMax => 95
  | .curveLimit => 99 | .curveMissing => 103 | .gridLimit => 107 | .oosFlow => 111
  | .checkError => 115 | .inboundDrop => 116 | .unmappedPoint => 117 | .interface => 118
  | .overTarget => 119 | .ticketStoreFull => 120 | .strayPass => 121

/-- The class of a kind (R140). -/
def CondKind.cls : CondKind → CondClass
  | .seqGap | .checkError | .inboundDrop | .unmappedPoint => .link
  | .frontendRestart | .frameImplausible | .pulseMismatch => .pulse
  | .valueHeld | .valueSubstituted | .valueClamped => .value
  | .flowAboveMax | .curveLimit | .curveMissing | .gridLimit => .flow
  | .oosFlow | .ticketStoreFull => .custody
  | .interface | .overTarget => .batch
  | .strayPass => .prove

/-- The code of a kind, numbered in the order of R140's table (R183). -/
def CondKind.code : CondKind → Nat
  | .seqGap => 0 | .frontendRestart => 1 | .frameImplausible => 2 | .valueHeld => 3
  | .valueSubstituted => 4 | .valueClamped => 5 | .pulseMismatch => 6 | .flowAboveMax => 7
  | .curveLimit => 8 | .curveMissing => 9 | .gridLimit => 10 | .oosFlow => 11 | .checkError => 12
  | .inboundDrop => 13 | .unmappedPoint => 14 | .interface => 15 | .overTarget => 16
  | .ticketStoreFull => 17 | .strayPass => 18

/-- The kinds in table order. -/
def CondKind.all : List CondKind :=
  [.seqGap, .frontendRestart, .frameImplausible, .valueHeld, .valueSubstituted, .valueClamped,
   .pulseMismatch, .flowAboveMax, .curveLimit, .curveMissing, .gridLimit, .oosFlow, .checkError,
   .inboundDrop, .unmappedPoint, .interface, .overTarget, .ticketStoreFull, .strayPass]

/-- The kind of an entry: the last block that begins at or before its number. -/
def kindOfEntry (n : Nat) : CondKind :=
  ((CondKind.all.filter fun k => decide (k.first ≤ n)).getLast?).getD .seqGap

/-- The source number of an entry: its slot or run, and 0 for the single-source entries 115 … 121 (R187). -/
def sourceOfEntry (n : Nat) : Nat := if 115 ≤ n then 0 else n - (kindOfEntry n).first + 1

/-- The entry of a kind for slot or run `i`; `i` is 1 for a kind with a single source (R140). -/
def CondKind.entry (k : CondKind) (i : Nat) : Nat := k.first + (i - 1)

/-! ### Levels (R141) -/

/-- The level of a class. -/
def Levels.get (l : Levels) : CondClass → Nat
  | .link => l.link | .value => l.value | .pulse => l.pulse | .flow => l.flow | .batch => l.batch
  | .custody => l.custody | .prove => l.prove | .notice => l.notice

/-- The eight levels in the order of R141. -/
def Levels.toList (l : Levels) : List Nat :=
  [l.link, l.value, l.pulse, l.flow, l.batch, l.custody, l.prove, l.notice]

/-- The level of a kind's class as it stands (R141). -/
def State.levelOf (s : State) (k : CondKind) : Nat := s.cond.levels.get k.cls

/-! ### Entries (R142, R144, R146) -/

/-- Change one entry of the table, by its number. -/
def State.modifyEntry (s : State) (n : Nat) (f : CondEntry → CondEntry) : State :=
  { s with cond := { s.cond with entries := s.cond.entries.modify (n - 1) f } }

/-- The entry with a number; NORMAL where there is none. -/
def State.entry (s : State) (n : Nat) : CondEntry := (s.cond.entries[n - 1]?).getD .normal

/-- Give an entry a state; a change at a class level of 1 or more makes it pending for report (R146). -/
def CondEntry.moveTo (e : CondEntry) (level : Nat) (c : CondState) : CondEntry :=
  { e with state := c, pending := e.pending || (decide (1 ≤ level) && decide (e.state ≠ c)) }

/-- A raise leads to ACTIVE_UNACK from every state; it is counted and stamped (R142, R144). -/
def CondEntry.raise (e : CondEntry) (level : Nat) (stamp : RaiseStamp) : CondEntry :=
  { e.moveTo level .activeUnack with count := saturate 65535 (e.count + 1), raised := some stamp }

/-- Where a return leads (R142). -/
def CondState.afterReturn : CondState → CondState
  | .activeUnack => .returnedUnack
  | .activeAck => .normal
  | .normal => .normal
  | .returnedUnack => .returnedUnack

/-- Where an acknowledgement leads (R142). -/
def CondState.afterAck : CondState → CondState
  | .activeUnack => .activeAck
  | .returnedUnack => .normal
  | .normal => .normal
  | .activeAck => .activeAck

/-- An entry waits for acknowledgement (R147). -/
def CondState.unack : CondState → Bool
  | .activeUnack | .returnedUnack => true
  | .normal | .activeAck => false

/-- While the device is UNCOMMISSIONED a raise takes effect for LINK and VALUE alone (R145). -/
def State.raiseTakesEffect (s : State) (k : CondKind) : Bool :=
  !s.uncommissioned || k.cls == .link || k.cls == .value

/-- The raise of an entry, less its count into the batch (R142, R144 steps 1 to 3). -/
def State.raiseEntry (s : State) (k : CondKind) (i : Nat) : State :=
  if s.raiseTakesEffect k then
    let seq := nextSequence s.cond.raiseSeq
    let stamp : RaiseStamp := ⟨s.mgmt.stationTime, s.mgmt.timeValid, seq⟩
    let t := s.modifyEntry (k.entry i) fun e => e.raise (s.levelOf k) stamp
    { t with cond := { t.cond with raiseSeq := seq } }
  else s

/-- A raise at level 3 is counted into the active batch (R144 step 4). -/
def State.countLevel3 (s : State) (k : CondKind) : State :=
  if s.raiseTakesEffect k ∧ s.levelOf k = 3 then
    s.mapActive fun b => { b with level3 := saturate 65535 (b.level3 + 1) }
  else s

/-- A raise (R144), gated by the device state (R145). -/
def State.raise (s : State) (k : CondKind) (i : Nat) : State := (s.raiseEntry k i).countLevel3 k

/-- A return (R142); it takes effect in every device state (R145). -/
def State.returnCond (s : State) (k : CondKind) (i : Nat) : State :=
  s.modifyEntry (k.entry i) fun e => e.moveTo (s.levelOf k) e.state.afterReturn

/-- A momentary occurrence: a raise and a return at one event (R143). -/
def State.occur (s : State) (k : CondKind) (i : Nat) : State :=
  if s.raiseTakesEffect k then (s.raise k i).returnCond k i else s

/-- A latched condition follows the state it stands for: raised where that begins, returned where it
ends (R140, R70). -/
def State.follow (s : State) (k : CondKind) (i : Nat) (before after : Bool) : State :=
  if after && !before then s.raise k i
  else if before && !after then s.returnCond k i
  else s

/-- An acknowledgement of one entry, by its number (R142). -/
def State.acknowledge (s : State) (n : Nat) : State :=
  s.modifyEntry n fun e => e.moveTo (s.levelOf (kindOfEntry n)) e.state.afterAck

/-- The entries with their numbers, in entry order. -/
def State.numberedEntries (s : State) : List (Nat × CondEntry) :=
  (s.cond.entries.zipIdx 1).map fun (e, n) => (n, e)

/-- The summary level: the highest class level among the unacknowledged entries, 0 where there are none.
An entry at level 0 adds nothing to a maximum that starts at 0 (R147). -/
def State.summaryLevel (s : State) : Nat :=
  s.numberedEntries.foldl
    (fun m (n, e) => if e.state.unack then max m (s.levelOf (kindOfEntry n)) else m) 0

/-! ### Notices (R149) -/

/-- The seven notices. -/
inductive NoticeId
  | batchChanged
  | ticketClosed
  | proveState (run : RunNo)
  | deviceState
  deriving DecidableEq, Repr

/-- The number of a notice (R149). -/
def NoticeId.number : NoticeId → Nat
  | .batchChanged => 1
  | .ticketClosed => 2
  | .proveState r => 2 + r.toNat
  | .deviceState => 7

/-- The notices in number order. -/
def NoticeId.all : List NoticeId :=
  [.batchChanged, .ticketClosed, .proveState .n1, .proveState .n2, .proveState .n3, .proveState .n4,
   .deviceState]

/-- The order in which the notices of one event take their sequences (R149). -/
def NoticeId.eventOrder : List NoticeId :=
  [.ticketClosed, .batchChanged, .proveState .n1, .proveState .n2, .proveState .n3, .proveState .n4,
   .deviceState]

/-- A notice of the table. -/
def Notices.get (t : Notices) : NoticeId → Notice
  | .batchChanged => t.batchChanged
  | .ticketClosed => t.ticketClosed
  | .proveState r => t.proveState.get r
  | .deviceState => t.deviceState

/-- Replace a notice of the table. -/
def Notices.set (t : Notices) (id : NoticeId) (n : Notice) : Notices :=
  match id with
  | .batchChanged => { t with batchChanged := n }
  | .ticketClosed => { t with ticketClosed := n }
  | .proveState r => { t with proveState := t.proveState.set r n }
  | .deviceState => { t with deviceState := n }

/-- A notice of the part. -/
def State.notice (s : State) (id : NoticeId) : Notice := s.cond.notices.get id

/-- Replace a notice. -/
def State.setNotice (s : State) (id : NoticeId) (n : Notice) : State :=
  { s with cond := { s.cond with notices := s.cond.notices.set id n } }

/-- A notice event: the content is replaced, the time recorded and the event counted; at a NOTICE level
of 1 or more a notice that is not pending becomes pending with the next sequence (R149). -/
def State.noticeEvent (s : State) (id : NoticeId) (content : NoticeContent) : State :=
  let old := s.notice id
  let t := s.setNotice id
    { old with content := some content, time := some s.mgmt.stationTime,
               count := saturate 255 (old.count + 1) }
  if 1 ≤ s.cond.levels.notice ∧ old.pending = false then
    let seq := nextSequence s.cond.raiseSeq
    let t := t.setNotice id { t.notice id with pending := true, seq := some seq }
    { t with cond := { t.cond with raiseSeq := seq } }
  else t

/-! ### The event in hand -/

/-- A state with the notice events of the event in hand, which take their sequences at its end: after
every raise of the event, in R149's order (R144). -/
structure Work where
  state : State
  notices : List (NoticeId × NoticeContent)
  deriving DecidableEq, Repr

/-- No notice event yet. -/
def State.work (s : State) : Work := ⟨s, []⟩

/-- Go on with a change that makes no notice event. -/
def Work.map (w : Work) (f : State → State) : Work := ⟨f w.state, w.notices⟩

/-- Go on with a change that may make notice events. -/
def Work.andThen (w : Work) (f : State → Work) : Work :=
  ⟨(f w.state).state, w.notices ++ (f w.state).notices⟩

/-- Make a notice event. -/
def Work.note (w : Work) (id : NoticeId) (content : NoticeContent) : Work :=
  ⟨w.state, w.notices ++ [(id, content)]⟩

/-- The notice events of one notice, in the order made. -/
def noticeEvents (id : NoticeId) (l : List (NoticeId × NoticeContent)) (s : State) : State :=
  (l.filter fun n => decide (n.1 = id)).foldl (fun s n => s.noticeEvent n.1 n.2) s

/-- The end of the event: its notices are set in R149's order. -/
def Work.finish (w : Work) : State :=
  NoticeId.eventOrder.foldl (fun s id => noticeEvents id w.notices s) w.state

/-- A change of the device state, with its notice (R178, R179). -/
def Work.setDevice (w : Work) (d : Device) : Work :=
  (w.map fun s => { s with mgmt := { s.mgmt with device := d } }).note .deviceState (.deviceState d)

/-! ### The run's condition flags (R70) -/

/-- Give a run's six flags, the changes of each raising or returning its condition; the entries are taken
in ascending number (R70, R144). -/
def State.setFlags (s : State) (r : RunNo) (new : RunFlags) : State :=
  let old := (s.chainOf r).flags
  let i := r.toNat
  let s := s.setChain r { s.chainOf r with flags := new }
  let s := s.follow .pulseMismatch i old.pulseMismatch new.pulseMismatch
  let s := s.follow .flowAboveMax i old.aboveMax new.aboveMax
  let s := s.follow .curveLimit i old.curveLimit new.curveLimit
  let s := s.follow .curveMissing i old.curveMissing new.curveMissing
  let s := s.follow .gridLimit i old.gridLimit new.gridLimit
  s.follow .oosFlow i old.flowingClosed new.flowingClosed

/-- Clear the five metering flags of a run, leaving flowing-while-closed (R53, R69). -/
def State.clearMeteringFlags (s : State) (r : RunNo) : State :=
  s.setFlags r { RunFlags.clear with flowingClosed := (s.chainOf r).flags.flowingClosed }

end Sys2Proof.Machine
end

