-- ==== Sys2Proof/Machine/Operands.lean ====
section
/-!
DEFINITION. What a dispatched frame carries: whose frame the head is, the length of each request
(Chapter 11), and the frame every request is answered in (R158, R176).
-/

namespace Sys2Proof.Machine

/-! ### The head of the inbound FIFO (R158) -/

/-- A frame for the own node; a part without an own node has none (R180). -/
def State.isOwn (s : State) (f : Frame) : Bool := s.ownNode == some f.dest.toNat

/-- A broadcast frame. -/
def Frame.isBroadcast (f : Frame) : Bool := f.dest == broadcast

/-- The head frame leaves the FIFO. -/
def State.popHead (s : State) : State :=
  { s with inbound := { s.inbound with fifo := s.inbound.fifo.tail } }

/-- The Forward Queue has room (R158). -/
def State.forwardRoom (s : State) : Bool := decide (s.forward.length < Config.forwardCapacity)

/-- Append a frame to the Forward Queue, unchanged (R162). -/
def State.appendForward (s : State) (f : Frame) : State := { s with forward := s.forward ++ [f] }

/-- The payload length of a sample or TRIGGER kind (R184). -/
def sampleLength (kind : Byte) : Option Nat :=
  if kind = kindPulse then some 15
  else if kind = kindValue then some 8
  else if kind = kindPass then some 17
  else if kind = kindTrigger then some 0
  else none

/-- A sample or TRIGGER frame of the right length (R159, R160). -/
def Frame.rightLength (f : Frame) : Bool := sampleLength f.kind == some f.payload.length

/-- A frame that the Management Unit takes: own node, REQUEST, at least a tag and a kind (R158). -/
def State.isRequest (s : State) (f : Frame) : Bool :=
  s.isOwn f && f.kind == kindRequest && decide (2 ≤ f.payload.length)

/-- The role takes the frame kind (section 1.1, R4). -/
def Role.takes : Role → Byte → Bool
  | .pulse _, k => k == kindPulse
  | .runTemp _, k | .runPres _, k | .headerDens, k | .headerWater, k => k == kindValue
  | .prover, k => k == kindPass

/-- The slot and entry of the point that a sample frame names, where its role takes the kind (R4). -/
def State.sampleEntry (s : State) (f : Frame) : Option (Nat × MapEntry) :=
  (s.findPoint (natAt 0 1 f.payload)).filter fun e => e.2.role.takes f.kind

/-! ### Request kinds and lengths (R183, R188) -/

/-- The widths of one value of a segment kind; none beyond the last (R188). -/
def segmentValueWidth : Nat → Option Nat
  | 0 | 1 => some 4
  | 2 => some 6
  | 3 => some 8
  | 4 => some 0
  | _ => none

/-- The length of the parameters of each request kind whose length is fixed by the kind (R183), in the
order of the table at the end of Chapter 10; none for LOAD_SEGMENT (8), ACK_CONDITIONS (28) and a kind
that is not one of the 38. -/
def fixedLength : Nat → Option Nat
  | 1 => some 3 | 2 => some 1 | 3 => some 51 | 4 => some 36 | 5 => some 2 | 6 => some 2
  | 7 => some 3 | 9 => some 5 | 10 => some 1 | 11 => some 1
  | 12 => some 23 | 13 => some 4 | 14 => some 0 | 15 => some 9 | 16 => some 2
  | 17 => some 6 | 18 => some 4 | 19 => some 1 | 20 => some 33
  | 21 => some 38 | 22 => some 1 | 23 => some 1 | 24 => some 1 | 25 => some 1 | 26 => some 1
  | 27 => some 2
  | 29 => some 8 | 30 => some 3
  | 31 => some 1
  | 32 => some 21 | 33 => some 44
  | 34 => some 0 | 35 => some 0 | 36 => some 0 | 37 => some 4 | 38 => some 0
  | _ => none

/-- The length the parameters of a request must have; none where no length fits (R30, R176, R183, R188).
ACK_CONDITIONS with any selector but LIST has the selector byte alone (log 16). -/
def requiredLength (kind : Nat) (params : List Byte) : Option Nat :=
  if kind = 8 then
    if params.length < 4 then none
    else (segmentValueWidth (natAt 1 1 params)).map fun w => 4 + natAt 3 1 params * w
  else if kind = 28 then
    if natAt 0 1 params = 1 then
      if params.length < 2 then none else some (2 + natAt 1 1 params)
    else some 1
  else fixedLength kind

/-- The second common check (R176). -/
def lengthFits (kind : Nat) (params : List Byte) : Bool :=
  requiredLength kind params == some params.length

/-! ### Answering a request (R176) -/

/-- What an owning block answers: the state it leaves, the result and the payload. -/
structure Answer where
  work : Work
  result : Result
  payload : List Byte
  deriving DecidableEq, Repr

/-- A result without payload that changes nothing. -/
def State.refuse (s : State) (r : Result) : Answer := ⟨s.work, r, []⟩

/-- DONE, changing nothing, with a payload. -/
def State.report (s : State) (payload : List Byte) : Answer := ⟨s.work, .done, payload⟩

/-- DONE with a changed state that sets no notice. -/
def State.answerDone (s : State) (payload : List Byte) : Answer := ⟨s.work, .done, payload⟩

/-- DONE with a change that may set notices. -/
def Work.done (w : Work) (payload : List Byte) : Answer := ⟨w, .done, payload⟩

/-- PENDING with a change that may set notices. -/
def Work.pendingAnswer (w : Work) (payload : List Byte) : Answer := ⟨w, .pending, payload⟩

/-- Queue the one response of a request: its tag and kind as received, addressed to its source (R176). -/
def State.queueResponse (s : State) (f : Frame) (result : Result) (payload : List Byte) : State :=
  { s with responses := s.responses ++
      [{ dest := f.src, tag := f.payload.getD 0 0, kind := f.payload.getD 1 0, result, payload }] }

/-- The event of a request ends: its notices are set and its response is queued. -/
def Answer.conclude (a : Answer) (f : Frame) : State :=
  a.work.finish.queueResponse f a.result a.payload

/-- The request at the head that may be dispatched: the head waits while the response queue holds 8
responses (R158). -/
def State.headRequest (s : State) : Option Frame :=
  match s.inbound.fifo with
  | [] => none
  | f :: _ =>
    if s.isRequest f && decide (s.responses.length < Config.responseCapacity) then some f else none

/-- The kind byte of a request. -/
def Frame.requestKind (f : Frame) : Nat := natAt 1 1 f.payload

/-- The parameters of a request. -/
def Frame.params (f : Frame) : List Byte := f.payload.drop 2

/-- The dispatch of the request at the head where it is one that the step takes: it leaves the FIFO, the
owner decides it, and its response is queued (R158, R176). Another head, or one that waits, stays as it
is (log 2). -/
def State.dispatchRequest (s : State) (takes : Frame → Bool) (owner : Frame → State → Answer) : State :=
  s.whenRunning fun s =>
    match s.headRequest with
    | some f => if takes f then (owner f s.popHead).conclude f else s
    | none => s

/-- The request of a kind: the length check, then the owner on the parameters (R176). -/
def State.request (s : State) (kind : Nat) (owner : List Byte → State → Answer) : State :=
  s.dispatchRequest (fun f => f.requestKind == kind) fun f s =>
    if lengthFits kind f.params then owner f.params s else s.refuse .badLength

/-- The run number that a parameter names. -/
def runAt (off : Nat) (params : List Byte) : Option RunNo := Num4.ofNat? (natAt off 1 params)

/-- The set number that a parameter names. -/
def setAt (off : Nat) (params : List Byte) : Option SetNo := Num4.ofNat? (natAt off 1 params)

/-- A number lies in a closed range. -/
def within (low high v : Nat) : Bool := decide (low ≤ v ∧ v ≤ high)

/-- A signed number lies in a closed range. -/
def withinInt (low high v : Int) : Bool := decide (low ≤ v ∧ v ≤ high)

end Sys2Proof.Machine
end

