-- ==== Sys2Proof/Machine/Ledger.lean ====
section
/-!
DEFINITION. The Totalizer Bank and the making of a ticket (Chapter 5), with READ_TOTALS and SEED_TOTALS.
-/

namespace Sys2Proof.Machine

/-! ### Totalizers (R100, R101) -/

/-- An increment added to a totalizer, with its rollover (R101). -/
def addTotal (total increment : Nat) : Nat :=
  if total + increment ≤ Config.totalizerTop then total + increment
  else total + increment - 10000000000000000

/-- Add a frame's four increments to a run's totalizers (R64, R101). -/
def Totals.add (t : Totals) (iv gsv nsv mass : Nat) : Totals :=
  ⟨addTotal t.iv iv, addTotal t.gsv gsv, addTotal t.nsv nsv, addTotal t.mass mass⟩

/-- The four totalizers in a payload. -/
def Totals.bytes (t : Totals) : List Byte :=
  signedField 8 t.iv ++ signedField 8 t.gsv ++ signedField 8 t.nsv ++ signedField 8 t.mass

/-! ### Making a ticket (R105 to R108) -/

/-- Sum one figure over the four run records. -/
def BatchEntry.total (b : BatchEntry) (figure : RunRecord → Nat) : Nat :=
  (b.records.toList.map figure).sum

/-- The averages of a run record: each sum over the IV, rounded once; absent where the IV is 0 (R107). -/
def RunRecord.averages (a : RunRecord) : Option Averages :=
  if a.iv = 0 then none
  else some
    { t := roundDiv a.sumT a.iv, p := roundNat a.sumP a.iv, mf := roundNat a.sumMf a.iv,
      ctl := roundNat a.sumCtl a.iv, cpl := roundNat a.sumCpl a.iv, sw := roundNat a.sumSw a.iv }

/-- The run section of a run record (R107). -/
def RunRecord.toSection (a : RunRecord) (r : RunNo) : RunSection :=
  { run := r, pulses := a.pulses, iv := a.iv, gsv := a.gsv, nsv := a.nsv, mass := a.mass,
    degraded := a.degraded, averages := a.averages }

/-- The run sections: one for each run whose record holds more than 0 pulses, in run order (R105). -/
def BatchEntry.sections (b : BatchEntry) : List RunSection :=
  (Num4.all.filter fun r => decide (0 < (b.records.get r).pulses)).map fun r =>
    (b.records.get r).toSection r

/-- The overrun: the batch NSV less the target in mL, with a target (R92). -/
def BatchEntry.overrun (b : BatchEntry) : Option Int :=
  b.target.map fun t => (b.nsv : Int) - t * 1000

/-- The ticket of a closing batch at the station time of its completion (R92, R105). The batch's set is
COMMITTED, so it has a signature (R37; log 24). -/
def State.makeTicket (s : State) (b : BatchEntry) (cause : CloseCause) : Ticket :=
  { seq := b.seq.getD 0, nomination := b.nomination, set := b.set,
    signature := (s.tableSet b.set).signature.getD 0, cause := cause,
    openTime := b.openTime, closeTime := s.mgmt.stationTime,
    timeValid := b.openValid && s.mgmt.timeValid,
    target := b.target, overrun := b.overrun,
    pulses := b.total RunRecord.pulses, iv := b.total RunRecord.iv, gsv := b.total RunRecord.gsv,
    nsv := b.total RunRecord.nsv, mass := b.total RunRecord.mass,
    degraded := b.total RunRecord.degraded, sections := b.sections, proves := b.proves,
    further := b.further, level3 := b.level3 }

/-! ### READ_TOTALS and SEED_TOTALS (R102, R103) -/

/-- What READ_TOTALS carries for one run (R102). -/
def State.runTotals (s : State) (r : RunNo) : List Byte :=
  byte r.toNat ++ (s.totalsOf r).bytes ++ field 4 (s.run r).unbooked ++ field 4 (s.run r).cutoffPulses

/-- The station time and its time-valid flag in a payload. -/
def State.stationTimeBytes (s : State) : List Byte :=
  field 4 s.mgmt.stationTime ++ flag s.mgmt.timeValid

/-- READ_TOTALS on a request that has its length: selector 0 for all runs, 1 … 4 for one (R102). -/
def readTotalsRequest (params : List Byte) (s : State) : Answer :=
  match natAt 0 1 params with
  | 0 => s.report (Num4.all.flatMap s.runTotals ++ s.stationTimeBytes)
  | n =>
    match Num4.ofNat? n with
    | some r => s.report (s.runTotals r ++ s.stationTimeBytes)
    | none => s.refuse .refusedRange

/-- The residues of a run zeroed (R75, R103). -/
def ChainRecord.zeroResidues (c : ChainRecord) : ChainRecord :=
  { c with ivRes := 0, gsvRes := 0, nsvRes := 0, massRes := 0 }

/-- SEED_TOTALS on a request that has its length (R103). The values are signed fields (R183), so a
negative one lies outside its range. -/
def seedTotalsRequest (params : List Byte) (s : State) : Answer :=
  let value (i : Nat) := intAt (1 + 8 * i) 8 params
  match runAt 0 params with
  | none => s.refuse .refusedRange
  | some r =>
    if !([0, 1, 2, 3].all fun i => withinInt 0 Config.totalizerTop (value i)) then s.refuse .refusedRange
    else if !s.uncommissioned then s.refuse .refusedState
    else
      let t : Totals := ⟨(value 0).toNat, (value 1).toNat, (value 2).toNat, (value 3).toNat⟩
      ((s.setTotals r t).setChain r (s.chainOf r).zeroResidues).answerDone t.bytes

/-! ### The commands -/

/-- READ_TOTALS (R102). -/
def execReadTotals (s : State) : Host.Outcome State Fault Refusal := .next (s.request 19 readTotalsRequest)

/-- SEED_TOTALS (R103). -/
def execSeedTotals (s : State) : Host.Outcome State Fault Refusal := .next (s.request 20 seedTotalsRequest)

end Sys2Proof.Machine
end

