-- ==== Sys2Proof/Machine/Prover.lean ====
section
/-!
DEFINITION. The prover and its queue (section 6.2): trying the head, a prove becoming ACTIVE, a prove
ending, and the application of a shift. The requests and the passes are in Proving.lean.
-/

namespace Sys2Proof.Machine

/-- The pass count of a record that has one (R115). -/
def ProveState.passCount : ProveState → Option Nat
  | .active _ _ n _ _ => some n
  | .pendingAccept _ _ n _ _ => some n
  | .none | .queued => .none

/-- The result of a record that has one (R115). -/
def ProveState.result : ProveState → Option ProveResult
  | .pendingAccept _ _ _ res _ => some res
  | .none | .queued | .active .. => .none

/-- Replace the prove queue. -/
def State.setProveQueue (s : State) (q : List RunNo) : State :=
  { s with prover := { s.prover with queue := q } }

/-- A prove of a run is given an outcome: its record returns to NONE with that last outcome, a queued run
leaves the queue, and the notice is set (R119). `formed` is the result a completion formed that the
record does not hold (R128; log 20). The prover, where freed, is not yet offered to the queue. -/
def State.endRecord (s : State) (r : RunNo) (outcome : ProveOutcome) (formed : Option ProveResult) :
    Work :=
  let p := (s.prove r).state
  let last : LastOutcome :=
    { outcome := outcome, time := s.mgmt.stationTime, set := p.recordedSet, count := p.passCount,
      result := p.result.or formed }
  let s := s.setProve r ⟨.none, some last⟩
  let s := s.setProveQueue (s.prover.queue.filter fun q => decide (q ≠ r))
  s.work.note (.proveState r) (.proveState .none none (some outcome) none none)

/-- The head of the queue is tried, and the next ones, until a prove becomes ACTIVE or the queue is empty
(R116): a METERING run's prove becomes ACTIVE on the active batch's set and ρb (R118), any other ends
NOT_FLOWING. A queued prove finds a batch active and the prover configured (R117; log 24). -/
def tryQueue : List RunNo → State → Work
  | [], s => (s.setProveQueue []).work
  | r :: rest, s =>
    match (s.run r).state, s.activeBatch, s.prover.config with
    | .metering, some b, some c =>
      let s := s.setProveQueue rest
      let active : ProveState := .active b.set b.rho 0 [] (s.expiryIn (c.passTimeout * 1000))
      let s := s.setProve r { s.prove r with state := active }
      s.work.note (.proveState r) (.proveState .active (some b.set) none none none)
    | _, _, _ => (s.endRecord r .notFlowing none).andThen (tryQueue rest)

/-- Try the head of the queue where the prover is free (R116). -/
def State.tryHead (s : State) : Work :=
  if s.activeProve.isSome then s.work else tryQueue s.prover.queue s

/-- A prove ends; an ACTIVE one frees the prover, and the head of the queue is tried (R119). -/
def State.endProve (s : State) (r : RunNo) (outcome : ProveOutcome) (formed : Option ProveResult) :
    Work :=
  let wasActive := (s.prove r).state.isActive
  let w := s.endRecord r outcome formed
  if wasActive then w.andThen State.tryHead else w

/-- An accepted DECOMMISSION ends every prove: the queued ones in queue order, then the others (R134). -/
def State.endAllProves (s : State) : Work :=
  (s.prover.queue ++ Num4.all).foldl
    (fun w r => w.andThen fun s =>
      if (s.prove r).state = .none then s.work else s.endRecord r .abortedDecommission none)
    s.work

/-- A shift entered in a batch's proves list, or counted where the list already holds 8 (R108, R130). -/
def BatchEntry.listProve (b : BatchEntry) (p : ProveApplied) : BatchEntry :=
  if b.proves.length < Config.provesListed then { b with proves := b.proves ++ [p] }
  else { b with further := saturate 255 (b.further + 1) }

/-- Apply a prove: write the shift of its run and recorded set, and list it in the active batch (R130). -/
def State.applyShift (s : State) (r : RunNo) (k : SetNo) (shift : Nat) : State :=
  (s.setShift r k shift).mapActive fun b => b.listProve ⟨r, shift, s.mgmt.stationTime⟩

end Sys2Proof.Machine
end

