-- ==== Sys2Proof/Machine/Reports.lean ====
section
/-!
DEFINITION. The Report Unit (sections 9.3 and 9.4): capture, triggers and coalescing, with SET_REPORTING
and REPORT_PERIOD_EXPIRY.
-/

namespace Sys2Proof.Machine

/-! ### Capture (R171) -/

/-- The content of a run's snapshot from the state as it stands, T and P as the chain reads them
(R56, R171). -/
def State.captureRun (s : State) (r : RunNo) : RunSnapshot :=
  let c := s.chainOf r
  { state := (s.run r).state
    closePending := (s.run r).closePending
    rate := c.lastRate
    temp := s.tempInUse r
    pres := s.presInUse r
    factors := c.lastFactors
    degraded := c.lastDegraded
    seq := s.activeBatch.bind (·.seq)
    volumes := s.activeBatch.map fun b => ⟨(b.records.get r).gsv, (b.records.get r).nsv⟩
    nsvTotal := (s.totalsOf r).nsv }

/-- The HEADER_WATER value in use with the quality its record stands in, a record in NO_DATA shown as
NO_DATA: the header snapshot reads the records (R15, R171), and R171 gives the chain's reading for T and P
alone (the model's choice, log 31). -/
def State.waterRecorded (s : State) : InUse :=
  match s.findRole .headerWater with
  | some (_, e) => { s.waterInUse with quality := e.record.quality }
  | none => s.waterInUse

/-- The quality of the HEADER_DENS record; NO_DATA where the role is not mapped (the model's choice,
log 31). -/
def State.densQuality (s : State) : Quality :=
  match s.findRole .headerDens with
  | some (_, e) => e.record.quality
  | none => .noData

/-- The above-high-limit flag of the HEADER_WATER record; clear where no point holds the role, for which the
spec gives no value (the model's choice, log 31). -/
def State.waterAboveHigh (s : State) : Bool :=
  match s.findRole .headerWater with
  | some (_, e) => e.record.aboveHigh
  | none => false

/-- The content of the header's snapshot from the state as it stands (R171). -/
def State.captureHeader (s : State) : HeaderSnapshot :=
  { density := s.densInUse
    densQuality := s.densQuality
    water := s.waterRecorded
    aboveHigh := s.waterAboveHigh
    seq := s.activeBatch.bind (·.seq)
    nsv := s.activeBatch.map BatchEntry.nsv
    target := s.activeBatch.bind (·.target)
    closePending := s.closePendingFlag }

/-! ### Triggers (R173, R174) -/

/-- A trigger of a slot: the latest content, and a count of the triggers absorbed while pending (R174). -/
def SnapSlot.triggered {α : Type} (slot : SnapSlot α) (content : α) : SnapSlot α :=
  { slot with
    content := some content
    pending := true
    coalesce := if slot.pending then saturate 255 (slot.coalesce + 1) else 0 }

/-- A slot that was not pending joins the tail of the result order (R174). -/
def ReportUnit.join (u : ReportUnit) (id : SnapId) (wasPending : Bool) : ReportUnit :=
  if wasPending then u else { u with order := u.order ++ [id] }

/-- Trigger one slot (R174). -/
def State.trigger (s : State) (id : SnapId) : State :=
  match id with
  | .run r =>
    let slot := s.reports.runSlots.get r
    let u := { s.reports with runSlots := s.reports.runSlots.set r (slot.triggered (s.captureRun r)) }
    { s with reports := u.join id slot.pending }
  | .header =>
    let slot := s.reports.headerSlot
    let u := { s.reports with headerSlot := slot.triggered s.captureHeader }
    { s with reports := u.join id slot.pending }

/-- The slots in the order in which one event's triggers join the result order (R174). -/
def SnapId.all : List SnapId := [.run .n1, .run .n2, .run .n3, .run .n4, .header]

/-- The triggers that are enabled for a slot without a test of their own (R173). -/
inductive Trigger
  | periodic | external | batchChange
  deriving DecidableEq, Repr

/-- A slot has the trigger enabled. -/
def SnapSlot.enables {α : Type} (slot : SnapSlot α) : Trigger → Bool
  | .periodic => slot.periodic
  | .external => slot.external
  | .batchChange => slot.batchChange

/-- One of the five slots has the trigger enabled. -/
def State.snapEnables (s : State) (t : Trigger) : SnapId → Bool
  | .run r => (s.reports.runSlots.get r).enables t
  | .header => s.reports.headerSlot.enables t

/-- An event that triggers every slot with a trigger enabled (R173). -/
def State.triggerAll (s : State) (t : Trigger) : State :=
  SnapId.all.foldl (fun s id => if s.snapEnables t id then s.trigger id else s) s

/-- The CHANGE test: enabled, and the reference value absent or differing by more than the deadband
(R173). -/
def SnapSlot.changed {α : Type} (slot : SnapSlot α) (v : Int) : Bool :=
  slot.change &&
    match slot.reference with
    | none => true
    | some ref => decide (slot.deadband < (v - ref).natAbs)

/-- The report hand-off of a run's frame: the CHANGE test on the last rate (R68, R173). -/
def State.reportHandOff (s : State) (r : RunNo) : State :=
  match (s.chainOf r).lastRate with
  | some q => if (s.reports.runSlots.get r).changed q then s.trigger (.run r) else s
  | none => s

/-- The CHANGE test on a density value taken by the HEADER_DENS record (R173). -/
def State.densityHandOff (s : State) (v : Int) : State :=
  if s.reports.headerSlot.changed v then s.trigger .header else s

/-! ### SET_REPORTING (R172) -/

/-- The settings of one slot from the payload: four enables and a deadband (R172). -/
def SnapSlot.configured {α : Type} (slot : SnapSlot α) (off : Nat) (params : List Byte) : SnapSlot α :=
  { slot with
    periodic := flagAt off params
    change := flagAt (off + 1) params
    external := flagAt (off + 2) params
    batchChange := flagAt (off + 3) params
    deadband := natAt (off + 4) 4 params }

/-- SET_REPORTING's effect on a request that has its length (R172). -/
def setReportingRequest (params : List Byte) (s : State) : Answer :=
  let period := natAt 0 4 params
  let deadband (i : Nat) := natAt (8 + 8 * i) 4 params
  if (period = 0 ∨ within 100 60000 period) ∧
      ([0, 1, 2, 3].all fun i => within 0 Config.maxRate (deadband i)) ∧ within 0 70000 (deadband 4) then
    let u := s.reports
    { s with reports := { u with
        period := period
        timer := if period = 0 then none else some (s.expiryIn period)
        runSlots := ⟨u.runSlots.n1.configured 4 params, u.runSlots.n2.configured 12 params,
                     u.runSlots.n3.configured 20 params, u.runSlots.n4.configured 28 params⟩
        headerSlot := u.headerSlot.configured 36 params } }.answerDone []
  else s.refuse .refusedRange

/-! ### The commands -/

/-- REPORT_PERIOD_EXPIRY (R173): every PERIODIC slot is triggered and the timer starts again with the
period. A stopped timer does not expire (log 2). -/
def execReportPeriodExpiry (s : State) : Host.Outcome State Fault Refusal :=
  .next <| s.whenRunning fun s =>
    match s.reports.timer with
    | some e =>
      let s := s.passTo e
      let s := s.triggerAll .periodic
      { s with reports := { s.reports with timer := some (s.expiryIn s.reports.period) } }
    | none => s

/-- SET_REPORTING (R172). -/
def execSetReporting (s : State) : Host.Outcome State Fault Refusal :=
  .next (s.request 33 setReportingRequest)

end Sys2Proof.Machine
end

