-- ==== Sys2Proof/Machine/Batches.lean ====
section
/-!
DEFINITION. The Batch Unit (Chapter 4): the interface detector, opening and closing a batch, and the
requests QUEUE_BATCH, CANCEL_BATCH, CLOSE_BATCH, AMEND_TARGET and READ_SCHEDULE, with
INTERFACE_TIMER_EXPIRY.
-/

namespace Sys2Proof.Machine

/-! ### Interface detection (R94 to R97) -/

/-- The density is outside: a batch is active, it has a window, and the HEADER_DENS value in use lies
beyond one of the window's ends (R94). -/
def State.densityOutside (s : State) : Bool :=
  match s.activeBatch.bind (·.window), s.densInUse with
  | some w, some v => decide (v < w.low) || decide (w.high < v)
  | _, _ => false

/-- One judgment of the interface detector (R95). -/
def State.judge (s : State) : State :=
  match s.batch.detector, s.densityOutside with
  | .inside, true => s.setDetector (.timing (s.expiryIn (s.points.header.persistence * 1000)))
  | .timing _, false => s.setDetector .inside
  | .interface, false => (s.setDetector .inside).returnCond .interface 1
  | .inside, false | .timing _, true | .interface, true => s

/-- The detector set afresh, at an opening or a decommission completion (R97). -/
def State.detectorAfresh (s : State) : State :=
  let s := if s.batch.detector = .interface then s.returnCond .interface 1 else s
  (s.setDetector .inside).judge

/-! ### Opening (R80, R81) -/

/-- An entry as it stands right after its opening (R80). -/
def BatchEntry.opened (b : BatchEntry) (seq time : Nat) (valid : Bool) : BatchEntry :=
  { b with seq := some seq, openTime := time, openValid := valid, records := .const .zero,
           proves := [], further := 0, level3 := 0, closing := none }

/-- Open the head entry (R80): the next sequence, the detector afresh, the BATCH_CHANGE triggers and the
BATCH_CHANGED notice. -/
def State.openHead (s : State) : Work :=
  match s.batch.schedule with
  | [] => s.work
  | b :: rest =>
    let seq := nextSequence s.batch.counter
    let b' := b.opened seq s.mgmt.stationTime s.mgmt.timeValid
    let s := { s with batch := { s.batch with schedule := b' :: rest, counter := seq } }
    let s := s.detectorAfresh
    let s := s.triggerAll .batchChange
    s.work.note .batchChanged (.batchChanged (some (seq, b.nomination)))

/-- The unnominated successor of a closing batch (R81). -/
def BatchEntry.unnominated (a : BatchEntry) : BatchEntry :=
  { nomination := 0, set := a.set, rho := a.rho, window := none, target := none,
    closeOnInterface := false, seq := none, openTime := 0, openValid := false,
    records := .const .zero, proves := [], further := 0, level3 := 0, closing := none }

/-! ### Completing a close (R91, R92) -/

/-- The part of a completion that ends a decommission: no successor, the device UNCOMMISSIONED, every run's
condition flags cleared, the detector INSIDE (R71, R92, R93, R97, R179). -/
def State.decommissionComplete (s : State) : Work :=
  let w := s.work.setDevice .uncommissioned
  let w := w.map fun s => Num4.all.foldl (fun s r => s.setFlags r .clear) s
  let w := w.map State.detectorAfresh
  let w := w.map (·.triggerAll .batchChange)
  let w := w.note .batchChanged (.batchChanged none)
  w.andThen fun s =>
    match s.activeProve with
    | some r => s.endProve r .abortedDecommission none
    | none => s.work

/-- A completion whose successor names another set ends the ACTIVE prove (R92, R134). -/
def State.gradeCheck (s : State) (k : SetNo) : Work :=
  match s.activeProve with
  | some r =>
    if (s.prove r).state.recordedSet = some k then s.work
    else s.endProve r .abortedGradeChange none
  | none => s.work

/-- A close completes: the ticket, the batch leaving the schedule, the successor (R91) and what follows
from it (R92). -/
def State.completeClose (s : State) (cause : CloseCause) (decommissionMark : Bool) : Work :=
  match s.batch.schedule with
  | [] => s.work
  | a :: rest =>
    let s := { s with tickets := s.tickets ++ [s.makeTicket a cause] }
    let s := s.setSchedule rest
    let s := (s.returnCond .overTarget 1).returnCond .ticketStoreFull 1
    let w := s.work.note .ticketClosed (.ticketClosed (a.seq.getD 0) s.tickets.length)
    if decommissionMark || cause == .decommission then w.andThen State.decommissionComplete
    else
      match rest with
      | [] =>
        ((w.map (·.setSchedule [a.unnominated])).andThen State.openHead).andThen
          (·.gradeCheck a.unnominated.set)
      | b :: _ => (w.andThen State.openHead).andThen (·.gradeCheck b.set)

/-! ### Beginning a close, and its obstacles (R88, R90) -/

/-- The obstacles of a close (R88). -/
structure Obstacles where
  room : Bool
  successor : Bool
  deriving DecidableEq, Repr

/-- No obstacle stands. -/
def Obstacles.clear (o : Obstacles) : Bool := !o.room && !o.successor

/-- The obstacles of a close on the active batch with a cause and marks (R88). -/
def State.obstaclesFor (s : State) (cause : CloseCause) (requestMark decommissionMark : Bool) :
    Obstacles :=
  { room := decide (Config.ticketCapacity ≤ s.tickets.length)
    successor := decide (s.batch.schedule.length ≤ 1) && cause == .target && !requestMark &&
      !decommissionMark }

/-- The obstacles that stand, where a close is pending (R88, R90). -/
def State.standing (s : State) : Obstacles :=
  match s.activeBatch.bind (·.closing) with
  | some c => s.obstaclesFor c.cause c.requestMark c.decommissionMark
  | none => ⟨false, false⟩

/-- OVER_TARGET and TICKET_STORE_FULL follow their obstacles, from those that stood before the event
(R90). -/
def State.followObstacles (s : State) (before : Obstacles) : State :=
  (s.follow .overTarget 1 before.successor s.standing.successor).follow .ticketStoreFull 1
    before.room s.standing.room

/-- A step of a close: the state it leaves, and the sequence of the batch closed where the close
completed. -/
structure CloseStep where
  work : Work
  closed : Option Nat
  deriving DecidableEq, Repr

/-- The sequence of the batch active after a step. -/
def CloseStep.opened (c : CloseStep) : Option Nat := c.work.state.activeBatch.bind (·.seq)

/-- Begin a close on the active batch: it completes at once where no obstacle stands, and otherwise makes
the close-pending record. A batch that has a record keeps it as it is (R88). A TICKET_STORE_FULL or
OVER_TARGET raised here at level 3 is counted into this batch (R144), also where R113 calls the ticket of
either order the same (the model's choice, log 33). -/
def State.beginClose (s : State) (cause : CloseCause) : CloseStep :=
  match s.activeBatch with
  | none => ⟨s.work, none⟩
  | some b =>
    if b.closing.isSome then ⟨s.work, none⟩
    else
      let decommissionMark := cause == .decommission
      if (s.obstaclesFor cause false decommissionMark).clear then
        ⟨s.completeClose cause decommissionMark, b.seq⟩
      else
        let s := s.mapActive fun b =>
          { b with closing := some ⟨cause, s.mgmt.stationTime, false, decommissionMark⟩ }
        ⟨(s.followObstacles ⟨false, false⟩).work, none⟩

/-- The test of a waiting close at an event that can remove an obstacle (R90). -/
def State.retestClose (s : State) (before : Obstacles) : CloseStep :=
  match s.activeBatch with
  | none => ⟨s.work, none⟩
  | some b =>
    match b.closing with
    | none => ⟨s.work, none⟩
    | some c =>
      if s.standing.clear then ⟨s.completeClose c.cause c.decommissionMark, b.seq⟩
      else ⟨(s.followObstacles before).work, none⟩

/-- The target check at a booked frame (R89). -/
def State.targetCheck (s : State) : Work :=
  match s.activeBatch with
  | none => s.work
  | some b =>
    match b.target with
    | none => s.work
    | some t =>
      if b.closing.isNone && decide (t * 1000 ≤ b.nsv) then (s.beginClose .target).work else s.work

/-! ### QUEUE_BATCH, CANCEL_BATCH, AMEND_TARGET, CLOSE_BATCH (R82 to R84, R86) -/

/-- A target of 1 … 999,999,999 litres, or none (R78). -/
def targetInRange : Option Nat → Bool
  | none => true
  | some t => within 1 999999999 t

/-- The density window of a QUEUE_BATCH: 0 and 0 for none, otherwise in order and range; the outer none
for a window that is refused (R82). -/
def windowOf (low high : Nat) : Option (Option DensityWindow) :=
  if low = 0 ∧ high = 0 then some none
  else if low < high ∧ within 50000 120000 low ∧ within 50000 120000 high then
    some (some ⟨low, high⟩)
  else none

/-- The position of a nomination in the schedule, the head as position 1. -/
def State.position (s : State) (nomination : Nat) : Nat :=
  s.batch.schedule.findIdx (fun b => b.nomination == nomination) + 1

/-- The sequences of the batch closed and of the batch opened, where a close completed (R82, R86). They carry
no presence bytes, and a response without a completion ends before them (the model's choice, log 12). -/
def CloseStep.sequences (c : CloseStep) : List Byte :=
  match c.closed with
  | some n => field 4 n ++ field 4 (c.opened.getD 0)
  | none => []

/-- QUEUE_BATCH on a request that has its length (R82). The position is the one after the request's
effects (R176; log 21). -/
def queueBatchRequest (params : List Byte) (s : State) : Answer :=
  let nomination := natAt 0 4 params
  let rho := natAt 5 4 params
  let target := optionalAt 17 4 params
  match setAt 4 params, windowOf (natAt 9 4 params) (natAt 13 4 params) with
  | some k, some window =>
    if nomination = 0 ∨ (s.tableSet k).state ≠ .committed ∨ !within 50000 120000 rho ∨
        !targetInRange target then s.refuse .refusedRange
    else if s.batch.schedule.any fun b => b.nomination == nomination then s.refuse .refusedDuplicate
    else if Config.scheduleCapacity ≤ s.batch.schedule.length then s.refuse .refusedFull
    else
      let entry : BatchEntry :=
        { nomination, set := k, rho, window, target, closeOnInterface := flagAt 22 params,
          seq := none, openTime := 0, openValid := false, records := .const .zero, proves := [],
          further := 0, level3 := 0, closing := none }
      let step := (s.setSchedule (s.batch.schedule ++ [entry])).retestClose s.standing
      step.work.done (byte (step.work.state.position nomination) ++ step.sequences)
  | _, _ => s.refuse .refusedRange

/-- The entry at a place of the schedule is the active batch (R77). -/
def State.isActiveIndex (s : State) (i : Nat) : Bool := i == 0 && !s.uncommissioned

/-- CANCEL_BATCH on a request that has its length (R83). -/
def cancelBatchRequest (params : List Byte) (s : State) : Answer :=
  match s.batch.schedule.findIdx? (fun b => b.nomination == natAt 0 4 params) with
  | none => s.refuse .notFound
  | some i =>
    if s.isActiveIndex i then s.refuse .refusedState
    else ((s.setSchedule (s.batch.schedule.eraseIdx i)).followObstacles s.standing).answerDone []

/-- AMEND_TARGET on a request that has its length (R84). Where a close begins, the response carries the
sequence of the batch opened, if any (log 12). -/
def amendTargetRequest (params : List Byte) (s : State) : Answer :=
  let target := optionalAt 4 4 params
  if !targetInRange target then s.refuse .refusedRange
  else
    match s.batch.schedule.findIdx? (fun b => b.nomination == natAt 0 4 params) with
    | none => s.refuse .notFound
    | some i =>
      let amended := s.setSchedule (s.batch.schedule.modify i fun b => { b with target := target })
      if !s.isActiveIndex i then amended.answerDone []
      else if s.closePendingFlag then s.refuse .refusedState
      else
        match target, amended.activeBatch with
        | some t, some b =>
          if t * 1000 ≤ b.nsv then
            let step := amended.beginClose .target
            match step.closed with
            | some _ => step.work.done (optional 4 (field 4) step.opened)
            | none => step.work.pendingAnswer (optional 4 (field 4) none)
          else amended.answerDone []
        | _, _ => amended.answerDone []

/-- The answer of CLOSE_BATCH: DONE with the batch closed and the batch opened, or PENDING (R86). -/
def CloseStep.answer (c : CloseStep) : Answer :=
  match c.closed with
  | some _ => c.work.done c.sequences
  | none => c.work.pendingAnswer []

/-- CLOSE_BATCH on a request that has its length (R86). -/
def closeBatchRequest (_params : List Byte) (s : State) : Answer :=
  match s.activeBatch with
  | none => s.refuse .refusedState
  | some b =>
    match b.closing with
    | none => (s.beginClose .request).answer
    | some c =>
      if c.cause = .target ∧ c.requestMark = false then
        ((s.mapActive fun b => { b with closing := some { c with requestMark := true } }).retestClose
          s.standing).answer
      else s.work.pendingAnswer []

/-! ### READ_SCHEDULE (R87) -/

/-- A target in a payload. -/
def targetBytes (t : Option Nat) : List Byte := optional 4 (field 4) t

/-- A density window in a payload: 0 and 0 for none (R183). -/
def windowBytes : Option DensityWindow → List Byte
  | none => field 4 0 ++ field 4 0
  | some w => field 4 w.low.toNat ++ field 4 w.high.toNat

/-- One entry of LIST: active 0 or queued 1, and for the active batch its sequence and open time
(R87; log 12). -/
def State.listEntry (s : State) (i : Nat) (b : BatchEntry) : List Byte :=
  byte (i + 1) ++ byte (if s.isActiveIndex i then 0 else 1) ++ field 4 b.nomination ++
  byte b.set.toNat ++ field 4 b.rho ++ windowBytes b.window ++ targetBytes b.target ++
  flag b.closeOnInterface ++
  if s.isActiveIndex i then field 4 (b.seq.getD 0) ++ field 4 b.openTime ++ flag b.openValid else []

/-- The part LIST (R87). -/
def State.scheduleList (s : State) : List Byte :=
  field 4 s.batch.counter ++ byte s.batch.schedule.length ++
  s.batch.schedule.zipIdx.flatMap fun (b, i) => s.listEntry i b

/-- The six booked figures of a run record. -/
def RunRecord.figures (a : RunRecord) : List Byte :=
  signedField 8 a.pulses ++ signedField 8 a.iv ++ signedField 8 a.gsv ++ signedField 8 a.nsv ++
  signedField 8 a.mass ++ signedField 8 a.degraded

/-- The six flow-weighted sums of a run record. -/
def RunRecord.sums (a : RunRecord) : List Byte :=
  signedField 16 a.sumT ++ signedField 16 a.sumP ++ signedField 16 a.sumMf ++
  signedField 16 a.sumCtl ++ signedField 16 a.sumCpl ++ signedField 16 a.sumSw

/-- The close-pending record with the obstacles that stand (R85, R87). -/
def ClosePending.bytes (c : ClosePending) (o : Obstacles) : List Byte :=
  byte c.cause.code ++ field 4 c.since ++ flag c.requestMark ++ flag c.decommissionMark ++
  flag o.room ++ flag o.successor

/-- The expiry of the interface timer while it runs (R95). -/
def Detector.timer : Detector → Option Nat
  | .timing e => some e
  | .inside | .interface => none

/-- The part ACTIVE (R87). -/
def State.activeReport (s : State) (b : BatchEntry) : List Byte :=
  field 4 (b.seq.getD 0) ++ field 4 b.nomination ++ signedField 8 b.nsv ++ targetBytes b.target ++
  optional 9 (fun c => c.bytes s.standing) b.closing ++
  byte s.batch.detector.code ++ optional 4 (field 4) (s.remaining s.batch.detector.timer) ++
  byte b.proves.length ++ byte b.further ++ field 2 b.level3 ++
  b.records.toList.flatMap RunRecord.figures

/-- READ_SCHEDULE on a request that has its length: LIST 0, ACTIVE 1 or RUN 2 (R87). RUN without an
active batch answers REFUSED_STATE whatever the run number (log 12). -/
def readScheduleRequest (params : List Byte) (s : State) : Answer :=
  match natAt 0 1 params with
  | 0 => s.report s.scheduleList
  | 1 =>
    match s.activeBatch with
    | some b => s.report (s.activeReport b)
    | none => s.refuse .refusedState
  | 2 =>
    match s.activeBatch, runAt 1 params with
    | none, _ => s.refuse .refusedState
    | some _, none => s.refuse .refusedRange
    | some b, some r => s.report ((b.records.get r).figures ++ (b.records.get r).sums)
  | _ => s.refuse .refusedRange

/-! ### The commands -/

/-- INTERFACE_TIMER_EXPIRY (R96). The raise takes its sequence before any other of the event and is
counted into the batch active after a completion (R144; log 10). -/
def execInterfaceTimerExpiry (s : State) : Host.Outcome State Fault Refusal :=
  .next <| s.whenRunning fun s =>
    match s.batch.detector with
    | .timing e =>
      let s := ((s.passTo e).setDetector .interface).raiseEntry .interface 1
      let close := match s.activeBatch with
        | some b => b.closeOnInterface
        | none => false
      let w := if close then (s.beginClose .interface).work else s.work
      (w.map (·.countLevel3 .interface)).finish
    | .inside | .interface => s

/-- QUEUE_BATCH (R82). -/
def execQueueBatch (s : State) : Host.Outcome State Fault Refusal := .next (s.request 12 queueBatchRequest)

/-- CANCEL_BATCH (R83). -/
def execCancelBatch (s : State) : Host.Outcome State Fault Refusal :=
  .next (s.request 13 cancelBatchRequest)

/-- CLOSE_BATCH (R86). -/
def execCloseBatch (s : State) : Host.Outcome State Fault Refusal := .next (s.request 14 closeBatchRequest)

/-- AMEND_TARGET (R84). -/
def execAmendTarget (s : State) : Host.Outcome State Fault Refusal :=
  .next (s.request 15 amendTargetRequest)

/-- READ_SCHEDULE (R87). -/
def execReadSchedule (s : State) : Host.Outcome State Fault Refusal :=
  .next (s.request 16 readScheduleRequest)

end Sys2Proof.Machine
end

