-- ==== Sys2Proof/Machine/Runs.lean ====
section
/-!
DEFINITION. Run states (sections 1.6 and 1.7): CONFIGURE_RUN, SET_RUN_SERVICE in its two rows, the run's
close and CLOSE_TIMER_EXPIRY.
-/

namespace Sys2Proof.Machine

/-! ### The close taking effect (R22, R69, R133) -/

/-- A run's close takes effect: CLOSED, no close pending, the timer stopped, the metering flags cleared,
and an ACTIVE prove of the run ended (R22, R69, R133). -/
def State.closeRun (s : State) (r : RunNo) : Work :=
  let s := s.setRun r { s.run r with state := .closed, closePending := false, closeTimer := none }
  let s := s.clearMeteringFlags r
  if (s.prove r).state.isActive then s.endProve r .abortedRunClosed none else s.work

/-- The end of the processing of a run's frame: a pending close takes effect (R22, R69). -/
def State.endOfFrame (s : State) (r : RunNo) : Work :=
  if (s.run r).closePending then s.closeRun r else s.work

/-! ### CONFIGURE_RUN (R17, R19) -/

/-- The fields of a CONFIGURE_RUN after the run number, in the order of the run table (section 1.6). -/
def runConfigOf (params : List Byte) : RunConfig :=
  { kmilli := some (natAt 1 8 params), dual := flagAt 9 params, tolerance := natAt 10 1 params,
    cutoff := natAt 11 4 params, maxRate := natAt 15 4 params,
    tempLow := intAt 19 4 params, tempHigh := intAt 23 4 params, tempSub := intAt 27 4 params,
    presLow := natAt 31 4 params, presHigh := natAt 35 4 params, presSub := natAt 39 4 params,
    stale := natAt 43 4 params, hold := natAt 47 4 params }

/-- Every field lies in the range the run table gives (R17). -/
def RunConfig.inRange (c : RunConfig) : Bool :=
  within 1000 100000000000 (c.kmilli.getD 0) && within 0 255 c.tolerance &&
  within 0 Config.maxRate c.cutoff && within c.cutoff Config.maxRate c.maxRate &&
  withinInt (-5000) 15000 c.tempLow && withinInt (-5000) 15000 c.tempHigh &&
  decide (c.tempLow < c.tempHigh) && withinInt c.tempLow c.tempHigh c.tempSub &&
  withinInt 0 200000 c.presLow && withinInt 0 200000 c.presHigh &&
  decide (c.presLow < c.presHigh) && withinInt c.presLow c.presHigh c.presSub &&
  within 100 60000 c.stale && within 0 3600000 c.hold

/-- A new substitute becomes the value in use at once in a record in NO_DATA or SUBSTITUTE (R19). -/
def LiveRecord.newSubstitute (rec : LiveRecord) (sub : Int) : LiveRecord :=
  match rec.quality with
  | .noData | .substitute => { rec with value := some sub }
  | .good | .held => rec

/-- Change the record of the point that holds a role, where one does. -/
def State.mapRole (s : State) (role : Role) (f : LiveRecord → LiveRecord) : State :=
  match s.findRole role with
  | some (slot, e) => s.setSlot slot (some { e with record := f e.record })
  | none => s

/-- CONFIGURE_RUN on a request that has its length (R17, R19). -/
def configureRunRequest (params : List Byte) (s : State) : Answer :=
  match runAt 0 params with
  | none => s.refuse .refusedRange
  | some r =>
    let u := s.run r
    let c := runConfigOf params
    if u.state ≠ .closed then s.refuse .refusedState
    else if !c.inRange then s.refuse .refusedRange
    else
      let s' := s.setRun r { u with config := c, configured := true }
      let s' := if u.configured ∧ u.config.kmilli = c.kmilli then s'
        else s'.setChain r { s'.chainOf r with ivRes := 0 }
      let s' := s'.mapRole (.runTemp r) (·.newSubstitute c.tempSub)
      (s'.mapRole (.runPres r) (·.newSubstitute c.presSub)).answerDone []

/-! ### SET_RUN_SERVICE (R20, R21, R23) -/

/-- SET_RUN_SERVICE(open) of a run (R21). -/
def openRun (r : RunNo) (s : State) : Answer :=
  let u := s.run r
  match u.state with
  | .closed =>
    if u.configured && (s.findRole (.pulse r)).isSome then
      let s := s.setRun r { u with state := .idle }
      (s.setFlags r { (s.chainOf r).flags with flowingClosed := false }).answerDone []
    else s.refuse .refusedState
  | .idle | .metering =>
    (s.setRun r { u with closePending := false, closeTimer := none }).answerDone []

/-- SET_RUN_SERVICE(close) of a run (R23). -/
def closeRunRequest (r : RunNo) (s : State) : Answer :=
  let u := s.run r
  match u.state, u.closePending with
  | .closed, _ => s.answerDone []
  | .idle, true | .metering, true => s.work.pendingAnswer []
  | .idle, false => (s.closeRun r).done []
  | .metering, false =>
    (s.setRun r { u with closePending := true, closeTimer := some (s.expiryIn Config.closeTimeMs) }).work
      |>.pendingAnswer []

/-- The two rows of SET_RUN_SERVICE share request kind 5, with the direction byte before the run: open 0,
close 1 (log 17). A row takes a request with its own direction, and one with no valid direction or
length, which either row refuses in the same way. -/
def State.setRunService (s : State) (direction other : Nat) (owner : RunNo → State → Answer) : State :=
  s.dispatchRequest
    (fun f => f.requestKind == 5 &&
      (!lengthFits 5 f.params || natAt 0 1 f.params != other))
    fun f s =>
      if !lengthFits 5 f.params then s.refuse .badLength
      else if natAt 0 1 f.params ≠ direction then s.refuse .refusedRange
      else
        match runAt 1 f.params with
        | some r => owner r s
        | none => s.refuse .refusedRange

/-! ### The commands -/

/-- CONFIGURE_RUN (R17). -/
def execConfigureRun (s : State) : Host.Outcome State Fault Refusal :=
  .next (s.request 3 configureRunRequest)

/-- SET_RUN_SERVICE_OPEN (R21). -/
def execSetRunServiceOpen (s : State) : Host.Outcome State Fault Refusal :=
  .next (s.setRunService 0 1 openRun)

/-- SET_RUN_SERVICE_CLOSE (R23). -/
def execSetRunServiceClose (s : State) : Host.Outcome State Fault Refusal :=
  .next (s.setRunService 1 0 closeRunRequest)

/-- CLOSE_TIMER_EXPIRY (R22). A stopped timer does not expire (log 2). -/
def execCloseTimerExpiry (r : RunNo) (s : State) : Host.Outcome State Fault Refusal :=
  .next <| s.whenRunning fun s =>
    match (s.run r).closeTimer with
    | some e => ((s.passTo e).closeRun r).finish
    | none => s

end Sys2Proof.Machine
end

