-- ==== Sys2Proof/Machine/Points.lean ====
section
/-!
DEFINITION. The Point Unit (Chapter 1): the acceptance test, value records and their timers, and the
commands VALUE_FRAME, STALE_TIMER_EXPIRY, HOLD_TIMER_EXPIRY, MAP_POINT, UNMAP_POINT, CONFIGURE_HEADER and
READ_LIVE.
-/

namespace Sys2Proof.Machine

/-! ### The acceptance test (R5) -/

/-- The classification of a frame (R5). -/
inductive Acceptance
  | first | restart | next | gap | discarded
  deriving DecidableEq, Repr

/-- The classification against the last sequence and epoch, by the first row that fits (R5). -/
def classify (last : Option SeqEpoch) (frame : SeqEpoch) : Acceptance :=
  match last with
  | none => .first
  | some l =>
    if l.epoch ≠ frame.epoch then .restart
    else
      let d := (frame.seq + 256 - l.seq) % 256
      if d = 0 then .discarded else if d = 1 then .next else if d ≤ 128 then .gap else .discarded

/-- The frame is taken as a baseline (R5, R6). -/
def Acceptance.baseline : Acceptance → Bool
  | .first | .restart => true
  | .next | .gap | .discarded => false

/-- The sequence and epoch of a sample frame (R186). -/
def Frame.seqEpoch (f : Frame) : SeqEpoch := ⟨natAt 2 1 f.payload, natAt 1 1 f.payload⟩

/-- Record the frame's sequence and epoch and raise what its classification raises, before any other use
of the frame (R5). -/
def State.accept (s : State) (slot : Nat) (e : MapEntry) (f : Frame) (c : Acceptance) : State :=
  let s := s.setSlot slot (some { e with record := { e.record with last := some f.seqEpoch } })
  match c with
  | .restart => s.occur .frontendRestart slot
  | .gap => s.occur .seqGap slot
  | .first | .next | .discarded => s

/-- The dispatch of a sample frame of a kind (R4, R158 to R160): an own-node frame of the right length
goes to its point, or makes UNMAPPED_POINT; a broadcast one waits for forward room, goes to its point if
it is taken, and is forwarded. A frame that the acceptance test discards changes no record. -/
def State.dispatchSample (s : State) (kind : Byte)
    (use : Frame → Nat → MapEntry → Acceptance → State → Work) : State :=
  s.whenRunning fun s =>
    match s.inbound.fifo with
    | [] => s
    | f :: _ =>
      if f.kind = kind ∧ f.rightLength = true then
        let toPoint (s : State) (slot : Nat) (e : MapEntry) : State :=
          match classify e.record.last f.seqEpoch with
          | .discarded => s
          | c =>
            let e' : MapEntry := { e with record := { e.record with last := some f.seqEpoch } }
            (use f slot e' c (s.accept slot e f c)).finish
        if s.isOwn f then
          match s.sampleEntry f with
          | some (slot, e) => toPoint s.popHead slot e
          | none => s.popHead.occur .unmappedPoint 1
        else if f.isBroadcast && s.forwardRoom then
          match s.sampleEntry f with
          | some (slot, e) => (toPoint s.popHead slot e).appendForward f
          | none => s.popHead.appendForward f
        else s
      else s

/-! ### Value records (R10 to R14) -/

/-- VALUE_HELD, VALUE_SUBSTITUTED and VALUE_CLAMPED follow a slot's record (R14). -/
def State.followRecord (s : State) (slot : Nat) (before after : LiveRecord) : State :=
  let s := s.follow .valueHeld slot (before.quality == .held) (after.quality == .held)
  let s := s.follow .valueSubstituted slot (before.quality == .substitute) (after.quality == .substitute)
  s.follow .valueClamped slot before.clamped after.clamped

/-- The three latched conditions of a slot return where active (R2, R3). -/
def State.returnLatched (s : State) (slot : Nat) : State :=
  ((s.returnCond .valueHeld slot).returnCond .valueSubstituted slot).returnCond .valueClamped slot

/-- A value record changes: its conditions follow it (R14), and a change of the HEADER_DENS record is
handed to the interface detector (R15, R94). -/
def State.updateRecord (s : State) (slot : Nat) (e : MapEntry) (new : LiveRecord) : State :=
  let s := s.setSlot slot (some { e with record := new })
  let s := s.followRecord slot e.record new
  if e.role = .headerDens then s.judge else s

/-- Above high limit is tested against the value in use in a HEADER_WATER record (R10, R13, R19). -/
def State.testHigh (s : State) (role : Role) (rec : LiveRecord) : LiveRecord :=
  match role, rec.value with
  | .headerWater, some v => { rec with aboveHigh := decide (s.points.header.waterLimit < v) }
  | _, _ => rec

/-- A value clamped to the configured range, with the clamped flag (R10). -/
def ValueConfig.clamp (c : ValueConfig) (v : Int) : Int × Bool :=
  if v < c.low then (c.low, true) else if c.high < v then (c.high, true) else (v, false)

/-- The record after an OK frame (R10). -/
def State.takeValue (s : State) (c : ValueConfig) (role : Role) (rec : LiveRecord) (v : Int) :
    LiveRecord :=
  let (value, clamped) := c.clamp v
  s.testHigh role
    { rec with quality := .good, value := some value, clamped := clamped,
               staleTimer := some (s.expiryIn c.stale), holdTimer := none }

/-- The record in SUBSTITUTE, as at a hold timer expiry (R13). The density keeps the last value taken. -/
def State.toSubstitute (s : State) (c : ValueConfig) (role : Role) (rec : LiveRecord) : LiveRecord :=
  s.testHigh role
    { rec with quality := .substitute, value := c.sub.or rec.value, clamped := false,
               staleTimer := none, holdTimer := none }

/-- The record going down from GOOD: HELD with the hold timer, or SUBSTITUTE at a hold limit of 0
(R11, R12). -/
def State.goDown (s : State) (c : ValueConfig) (role : Role) (rec : LiveRecord) : LiveRecord :=
  if 0 < c.hold then
    { rec with quality := .held, staleTimer := none, holdTimer := some (s.expiryIn c.hold) }
  else s.toSubstitute c role rec

/-- The record after a FAULT frame (R11). -/
def State.takeFault (s : State) (c : ValueConfig) (role : Role) (rec : LiveRecord) : LiveRecord :=
  match rec.quality with
  | .good => s.goDown c role rec
  | .noData | .held | .substitute => rec

/-- The use of an accepted VALUE frame (R6, R10, R11): a value taken by the HEADER_DENS record is also
offered to the header slot's CHANGE trigger (R173). -/
def useValue (f : Frame) (slot : Nat) (e : MapEntry) (_c : Acceptance) (s : State) : Work :=
  match s.valueConfig e.role with
  | none => s.work
  | some c =>
    if natAt 3 1 f.payload = 0 then
      let new := s.takeValue c e.role e.record (intAt 4 4 f.payload)
      let s := s.updateRecord slot e new
      (match e.role, new.value with
        | .headerDens, some v => s.densityHandOff v
        | _, _ => s).work
    else (s.updateRecord slot e (s.takeFault c e.role e.record)).work

/-! ### MAP_POINT and UNMAP_POINT (R2, R3) -/

/-- The role that a code and a run number name; the run is ignored for the header and prover roles (R2). -/
def roleOf (code run : Nat) : Option Role :=
  match code with
  | 0 => (Num4.ofNat? run).map Role.pulse
  | 1 => (Num4.ofNat? run).map Role.runTemp
  | 2 => (Num4.ofNat? run).map Role.runPres
  | 3 => some .headerDens
  | 4 => some .headerWater
  | 5 => some .prover
  | _ => none

/-- A prove is ACTIVE or PENDING_ACCEPT, for any run (R2, R114). -/
def State.proveInProgress (s : State) : Bool :=
  Num4.all.any fun r => (s.prove r).state.recordedSet.isSome

/-- The role condition of MAP_POINT and UNMAP_POINT (R2). -/
def State.roleCondition (s : State) : Role → Bool
  | .pulse r | .runTemp r | .runPres r => (s.run r).state == .closed
  | .headerDens | .headerWater => s.uncommissioned
  | .prover => !s.proveInProgress

/-- The entry of another point that holds a role (R2). -/
def State.roleTaken (s : State) (role : Role) (pointId : Nat) : Bool :=
  match s.findRole role with
  | some (_, e) => e.pointId != pointId
  | none => false

/-- Give a slot an entry with a fresh record (R2). -/
def State.mapSlot (s : State) (slot pointId : Nat) (role : Role) : State :=
  let s' := s.setSlot slot (some ⟨pointId, role, s.freshRecord role⟩)
  (s'.returnLatched slot).judge

/-- MAP_POINT on a request that has its length (R2). Every DONE carries the slot (log 18). -/
def mapPointRequest (params : List Byte) (s : State) : Answer :=
  let pointId := natAt 0 1 params
  match roleOf (natAt 1 1 params) (natAt 2 1 params) with
  | none => s.refuse .refusedRange
  | some role =>
    if 254 < pointId then s.refuse .refusedRange
    else
      match s.findPoint pointId with
      | some (slot, e) =>
        if !s.roleCondition role || !s.roleCondition e.role then s.refuse .refusedState
        else if s.roleTaken role pointId then s.refuse .refusedDuplicate
        else if e.role = role then s.answerDone (byte slot)
        else (s.mapSlot slot pointId role).answerDone (byte slot)
      | none =>
        if !s.roleCondition role then s.refuse .refusedState
        else if s.roleTaken role pointId then s.refuse .refusedDuplicate
        else
          match s.freeSlot with
          | some slot => (s.mapSlot slot pointId role).answerDone (byte slot)
          | none => s.refuse .refusedFull  -- no run gets here: fifteen roles, fifteen slots (log 24)

/-- UNMAP_POINT on a request that has its length (R3). -/
def unmapPointRequest (params : List Byte) (s : State) : Answer :=
  match s.findPoint (natAt 0 1 params) with
  | none => s.refuse .notFound
  | some (slot, e) =>
    if !s.roleCondition e.role then s.refuse .refusedState
    else (((s.setSlot slot none).returnLatched slot).judge).answerDone []

/-! ### CONFIGURE_HEADER (R18, R19) -/

/-- The fields of a CONFIGURE_HEADER in the order of the header table (section 1.6). -/
def headerConfigOf (params : List Byte) : HeaderConfig :=
  { densLow := natAt 0 4 params, densHigh := natAt 4 4 params,
    waterLow := natAt 8 4 params, waterHigh := natAt 12 4 params, waterSub := natAt 16 4 params,
    waterLimit := natAt 20 4 params, stale := natAt 24 4 params, hold := natAt 28 4 params,
    persistence := natAt 32 4 params }

/-- Every field lies in the range the header table gives (R18). -/
def HeaderConfig.inRange (h : HeaderConfig) : Bool :=
  withinInt 50000 120000 h.densLow && withinInt 50000 120000 h.densHigh &&
  decide (h.densLow < h.densHigh) &&
  withinInt 0 1000000 h.waterLow && withinInt 0 1000000 h.waterHigh &&
  decide (h.waterLow < h.waterHigh) &&
  withinInt h.waterLow h.waterHigh h.waterSub && withinInt h.waterLow h.waterHigh h.waterLimit &&
  within 100 60000 h.stale && within 0 3600000 h.hold && within 1 600 h.persistence

/-- CONFIGURE_HEADER on a request that has its length (R18, R19). The high limit the request carries is
tested against the value in use at once, changed or not (log 19). -/
def configureHeaderRequest (params : List Byte) (s : State) : Answer :=
  let h := headerConfigOf params
  if !s.uncommissioned then s.refuse .refusedState
  else if !h.inRange then s.refuse .refusedRange
  else
    let s := { s with points := { s.points with header := h } }
    (s.mapRole .headerWater fun rec => s.testHigh .headerWater (rec.newSubstitute h.waterSub)).answerDone []

/-! ### READ_LIVE (R24) -/

/-- A running timer as the milliseconds remaining, a stopped one as an absent field (R24; log 12). -/
def State.timerBytes (s : State) (timer : Option Nat) : List Byte :=
  optional 4 (field 4) (s.remaining timer)

/-- The fields every record has: quality, last sequence, last epoch (R9; log 12). -/
def LiveRecord.commonBytes (rec : LiveRecord) : List Byte :=
  byte rec.quality.code ++ optional 1 (fun l : SeqEpoch => byte l.seq) rec.last ++
  optional 1 (fun l : SeqEpoch => byte l.epoch) rec.last

/-- A record with every field of R9 that its role has, in R9's order. The last sequence and the last epoch, and
each of the three baselines of a PULSE record, have a presence byte of their own (the model's choice,
log 12). -/
def State.recordBytes (s : State) (role : Role) (rec : LiveRecord) : List Byte :=
  rec.commonBytes ++
  match role with
  | .pulse _ =>
    optional 4 (fun c : Counts => field 4 c.a) rec.base ++
    optional 4 (fun c : Counts => field 4 c.b) rec.base ++
    optional 4 (fun c : Counts => field 4 c.elapsed) rec.base
  | .runTemp _ | .runPres _ =>
    signedField 4 (rec.value.getD 0) ++ flag rec.clamped ++ s.timerBytes rec.staleTimer ++
    s.timerBytes rec.holdTimer
  | .headerDens =>
    optional 4 (signedField 4) rec.value ++ flag rec.clamped ++ s.timerBytes rec.staleTimer ++
    s.timerBytes rec.holdTimer
  | .headerWater =>
    signedField 4 (rec.value.getD 0) ++ flag rec.clamped ++ flag rec.aboveHigh ++
    s.timerBytes rec.staleTimer ++ s.timerBytes rec.holdTimer
  | .prover => optional 1 byte rec.lastPass

/-- The width of a role's record in a payload. -/
def Role.recordWidth : Role → Nat
  | .pulse _ | .runTemp _ | .runPres _ => 20
  | .headerDens | .headerWater => 21
  | .prover => 7

/-- The record of the point that holds a role, absent if none does (R24). -/
def State.roleBytes (s : State) (role : Role) : List Byte :=
  optional role.recordWidth (fun e : Nat × MapEntry => s.recordBytes role e.2.record) (s.findRole role)

/-- READ_LIVE's selector POINT (R24). -/
def State.livePoint (s : State) (pointId : Nat) : Answer :=
  if pointId = 255 then s.refuse .refusedRange
  else
    match s.findPoint pointId with
    | none => s.refuse .notFound
    | some (slot, e) =>
      s.report (byte slot ++ byte e.role.code ++ optional 1 (fun r => byte r.toNat) e.role.run? ++
        s.recordBytes e.role e.record)

/-- READ_LIVE's selector RUN (R24). -/
def State.liveRun (s : State) (r : RunNo) : List Byte :=
  let u := s.run r
  byte u.state.code ++ flag u.configured ++ flag u.closePending ++ s.timerBytes u.closeTimer ++
  s.roleBytes (.pulse r) ++ s.roleBytes (.runTemp r) ++ s.roleBytes (.runPres r)

/-- READ_LIVE on a request that has its length: POINT 0, RUN 1 or HEADER 2 (R24). -/
def readLiveRequest (params : List Byte) (s : State) : Answer :=
  match natAt 0 1 params with
  | 0 => s.livePoint (natAt 1 1 params)
  | 1 =>
    match runAt 1 params with
    | some r => s.report (s.liveRun r)
    | none => s.refuse .refusedRange
  | 2 => s.report (s.roleBytes .headerDens ++ s.roleBytes .headerWater)
  | _ => s.refuse .refusedRange

/-! ### The commands -/

/-- VALUE_FRAME (R10). -/
def execValueFrame (s : State) : Host.Outcome State Fault Refusal :=
  .next (s.dispatchSample kindValue useValue)

/-- STALE_TIMER_EXPIRY (R12). A stopped timer does not expire (log 2). -/
def execStaleTimerExpiry (slot : Nat) (s : State) : Host.Outcome State Fault Refusal :=
  .next <| s.whenRunning fun s =>
    match s.slotEntry slot with
    | none => s
    | some e =>
      match e.record.staleTimer, s.valueConfig e.role with
      | some t, some c =>
        let s := s.passTo t
        s.updateRecord slot e (s.goDown c e.role e.record)
      | _, _ => s

/-- HOLD_TIMER_EXPIRY (R13). A stopped timer does not expire (log 2). -/
def execHoldTimerExpiry (slot : Nat) (s : State) : Host.Outcome State Fault Refusal :=
  .next <| s.whenRunning fun s =>
    match s.slotEntry slot with
    | none => s
    | some e =>
      match e.record.holdTimer, s.valueConfig e.role with
      | some t, some c =>
        let s := s.passTo t
        s.updateRecord slot e (s.toSubstitute c e.role e.record)
      | _, _ => s

/-- MAP_POINT (R2). -/
def execMapPoint (s : State) : Host.Outcome State Fault Refusal := .next (s.request 1 mapPointRequest)

/-- UNMAP_POINT (R3). -/
def execUnmapPoint (s : State) : Host.Outcome State Fault Refusal := .next (s.request 2 unmapPointRequest)

/-- CONFIGURE_HEADER (R18). -/
def execConfigureHeader (s : State) : Host.Outcome State Fault Refusal :=
  .next (s.request 4 configureHeaderRequest)

/-- READ_LIVE (R24). -/
def execReadLive (s : State) : Host.Outcome State Fault Refusal := .next (s.request 6 readLiveRequest)

end Sys2Proof.Machine
end

