-- ==== Sys2Proof/Machine/Tables.lean ====
section
/-!
DEFINITION. The Table Store (Chapter 2): the lookups, loading, commit and signature, and the requests
BEGIN_LOAD, LOAD_SEGMENT, COMMIT_SET, DISCARD_SET and READ_SET_INFO.
-/

namespace Sys2Proof.Machine

/-! ### Lookups (R40 to R45) -/

/-- A coordinate placed on a table: taken as the nearest end, with a flag, where it lies outside (R41). -/
def clampToAxis (axis : List Int) (x : Int) : Int × Bool :=
  match axis.head?, axis.getLast? with
  | some first, some last =>
    if x < first then (first, true) else if last < x then (last, true) else (x, false)
  | _, _ => (x, false)

/-- The segment of a placed coordinate, from 0: the interior points at or below it come before the
segment, so a coordinate at the last point uses the last segment (R41). -/
def segmentOf (axis : List Int) (x : Int) : Nat :=
  ((axis.drop 1).dropLast.filter fun p => decide (p ≤ x)).length

/-- The value at a coordinate on a segment, the quotient rounded once (R42). -/
def interpolate (x0 x1 y0 y1 x : Int) : Int :=
  y0 + roundDiv ((y1 - y0) * (x - x0)) (x1 - x0).toNat

/-- The value at a placed coordinate of a table of points and values (R41, R42). -/
def interpolateOn (axis values : List Int) (x : Int) : Int :=
  let i := segmentOf axis x
  interpolate (axis.getD i 0) (axis.getD (i + 1) 0) (values.getD i 0) (values.getD (i + 1) 0) x

/-- What a curve lookup returns (R40). -/
structure CurveReading where
  mfc : Nat
  missing : Bool
  atLimit : Bool
  deriving DecidableEq, Repr

/-- A curve lookup (R43). A NOT_LOADED slot, which no committed set has, reads as NO_CURVE (log 24). -/
def curveLookup (slot : CurveSlot) (rate : Nat) : CurveReading :=
  match slot with
  | .curve points =>
    let axis := points.map fun p => (p.rate : Int)
    let (x, atLimit) := clampToAxis axis rate
    ⟨(interpolateOn axis (points.map fun p => (p.mf : Int)) x).toNat, false, atLimit⟩
  | .noCurve | .notLoaded => ⟨1000000, true, false⟩

/-- What a grid lookup returns (R40). -/
structure GridReading where
  ctl : Nat
  f : Nat
  atLimit : Bool
  deriving DecidableEq, Repr

/-- The cells of a grid row, by density index from 0. -/
def TableSet.row (t : TableSet) (j : Nat) : List GridCell := (t.rows.getD j none).getD []

/-- A grid lookup: temperature first on both rows, then density between the rounded row values (R44). -/
def gridLookup (t : TableSet) (temp rho : Int) : GridReading :=
  let temps := t.tempAxis.getD []
  let denss := t.densAxis.getD []
  let (x, atTemp) := clampToAxis temps temp
  let (y, atDens) := clampToAxis denss rho
  let j := segmentOf denss y
  let ctlOf (row : List GridCell) := interpolateOn temps (row.map fun c => (c.ctl : Int)) x
  let fOf (row : List GridCell) := interpolateOn temps (row.map fun c => (c.f : Int)) x
  let d0 := denss.getD j 0
  let d1 := denss.getD (j + 1) 0
  ⟨(interpolate d0 d1 (ctlOf (t.row j)) (ctlOf (t.row (j + 1))) y).toNat,
   (interpolate d0 d1 (fOf (t.row j)) (fOf (t.row (j + 1))) y).toNat,
   atTemp || atDens⟩

/-- The pressure factor of the liquid from F and a pressure (R59, R123, R124). -/
def pressureFactor (f p : Nat) : Nat := 1000000 + roundNat (f * p) 10000

/-- A factor applied in ppm, rounded (R57, R60, R123, R124). -/
def applyPpm (a b : Nat) : Nat := roundNat (a * b) 1000000

/-- A meter factor kept within 800,000 … 1,200,000 (R57, R129). -/
def clampMf (mf : Nat) : Nat := if mf < 800000 then 800000 else if 1200000 < mf then 1200000 else mf

/-! ### Loading (R28 to R31) -/

/-- The required segments now absent: axes and grid rows (R29, R31). -/
def TableSet.requiredAbsent (t : TableSet) : Nat :=
  (if t.tempAxis.isNone then 1 else 0) + (if t.densAxis.isNone then 1 else 0) +
    (t.rows.filter Option.isNone).length

/-- A set LOADING with nothing loaded (R29). -/
def TableSet.begun (temp dens : Nat) : TableSet :=
  { state := .loading, sizes := some ⟨temp, dens⟩, tempAxis := none, densAxis := none,
    rows := List.replicate dens none, curves := .const .notLoaded, signature := none }

/-- The four shift entries of a set are reset (R39). -/
def State.resetShifts (s : State) (k : SetNo) : State :=
  Num4.all.foldl (fun s r => s.setShift r k 1000000) s

/-- BEGIN_LOAD's effect on a request that has its length (R28, R29). -/
def beginLoadRequest (params : List Byte) (s : State) : Answer :=
  let temp := natAt 1 1 params
  let dens := natAt 2 1 params
  match setAt 0 params with
  | none => s.refuse .refusedRange
  | some k =>
    if !within 2 16 temp || !within 2 8 dens then s.refuse .refusedRange
    else if s.referenced k then s.refuse .refusedInUse
    else
      let t := TableSet.begun temp dens
      ((s.setTable k t).resetShifts k).answerDone (byte t.requiredAbsent)

/-- The bytes of each value of a segment, in order (R188). -/
def segmentValues (w : Nat) (params : List Byte) : List (List Byte) :=
  (List.range (natAt 3 1 params)).map fun i => slice (4 + i * w) w params

/-- The temperature points of a TEMP_AXIS segment. -/
def tempPoints (params : List Byte) : List Int := (segmentValues 4 params).map intOf

/-- The density points of a DENS_AXIS segment. -/
def densPoints (params : List Byte) : List Int :=
  (segmentValues 4 params).map fun v => (natOf v : Int)

/-- The cells of a GRID_ROW segment. -/
def rowCells (params : List Byte) : List GridCell :=
  (segmentValues 6 params).map fun v => ⟨natAt 0 4 v, natAt 4 2 v⟩

/-- The points of a CURVE segment. -/
def curvePoints (params : List Byte) : List CurvePoint :=
  (segmentValues 8 params).map fun v => ⟨natAt 0 4 v, natAt 4 4 v⟩

/-- A cell's values lie in their ranges (R26). -/
def GridCell.inRange (c : GridCell) : Bool := within 800000 1100000 c.ctl && within 0 5000 c.f

/-- A curve point's values lie in their ranges (R26). -/
def CurvePoint.inRange (p : CurvePoint) : Bool :=
  within 0 Config.maxRate p.rate && within 800000 1200000 p.mf

/-- The set with a segment stored, where its identity, count and values pass checks 3 and 4; none where
they do not (R30, R31). The identity byte of an axis, which R188 gives as 0, and the stated count of a
NO_CURVE are not looked at: R30 names no check of either (the model's choice, log 30). -/
def TableSet.store (t : TableSet) (sizes : Sizes) (params : List Byte) : Option TableSet :=
  let identity := natAt 2 1 params
  let count := natAt 3 1 params
  match natAt 1 1 params with
  | 0 =>
    if count = sizes.temp ∧ (tempPoints params).all (withinInt (-5000) 15000) then
      some { t with tempAxis := some (tempPoints params) }
    else none
  | 1 =>
    if count = sizes.dens ∧ (densPoints params).all (withinInt 50000 120000) then
      some { t with densAxis := some (densPoints params) }
    else none
  | 2 =>
    if 1 ≤ identity ∧ identity ≤ sizes.dens ∧ count = sizes.temp ∧
        (rowCells params).all GridCell.inRange then
      some { t with rows := t.rows.set (identity - 1) (some (rowCells params)) }
    else none
  | 3 =>
    match Num4.ofNat? identity with
    | some r =>
      if within 2 12 count && (curvePoints params).all CurvePoint.inRange then
        some { t with curves := t.curves.set r (.curve (curvePoints params)) }
      else none
    | none => none
  | 4 =>
    match Num4.ofNat? identity with
    | some r => some { t with curves := t.curves.set r .noCurve }
    | none => none
  | _ => none

/-- LOAD_SEGMENT's effect on a request that has its length (R30, R31). -/
def loadSegmentRequest (params : List Byte) (s : State) : Answer :=
  match setAt 0 params with
  | none => s.refuse .refusedRange
  | some k =>
    match (s.tableSet k).state, (s.tableSet k).sizes with
    | .loading, some sizes =>
      match (s.tableSet k).store sizes params with
      | some t => (s.setTable k t).answerDone (byte t.requiredAbsent)
      | none => s.refuse .refusedRange
    | _, _ => s.refuse .refusedState

/-! ### Commit and signature (R32 to R34) -/

/-- Strictly ascending. -/
def ascending : List Int → Bool
  | [] => true
  | [_] => true
  | a :: b :: rest => decide (a < b) && ascending (b :: rest)

/-- A held curve has its rates in order (R32). -/
def CurveSlot.ordered : CurveSlot → Bool
  | .curve points => ascending (points.map fun p => (p.rate : Int))
  | .noCurve | .notLoaded => true

/-- The part of the canonical image of one curve slot (R33, R189). -/
def CurveSlot.image : CurveSlot → List Byte
  | .curve points =>
    byte 1 ++ byte points.length ++ points.flatMap fun p => field 4 p.rate ++ field 4 p.mf
  | .noCurve | .notLoaded => byte 0

/-- The canonical image of a set (R33) with the widths of R189. -/
def TableSet.image (t : TableSet) : List Byte :=
  (match t.sizes with
    | some z => byte z.temp ++ byte z.dens
    | none => []) ++
  ((t.tempAxis.getD []).flatMap fun x => signedField 4 x) ++
  ((t.densAxis.getD []).flatMap fun x => field 4 x.toNat) ++
  (t.rows.flatMap fun row => (row.getD []).flatMap fun c => field 4 c.ctl ++ field 2 c.f) ++
  (t.curves.toList.flatMap CurveSlot.image)

/-- The signature computed over the set's image (R34). -/
def TableSet.computedSignature (t : TableSet) : BitVec 32 := crc32 t.image

/-- Every required segment is held (R32). -/
def TableSet.complete (t : TableSet) : Bool := decide (t.requiredAbsent = 0)

/-- The axes and the held curves are in order (R32). -/
def TableSet.ordered (t : TableSet) : Bool :=
  ascending (t.tempAxis.getD []) && ascending (t.densAxis.getD []) &&
    t.curves.toList.all CurveSlot.ordered

/-- A curve slot at the commit: NOT_LOADED becomes NO_CURVE (R32). -/
def CurveSlot.committed : CurveSlot → CurveSlot
  | .notLoaded => .noCurve
  | .noCurve => .noCurve
  | .curve points => .curve points

/-- CHECK_FAILED with its reason, INCOMPLETE 0, ORDER 1 or SIGNATURE 2, and the signature where the
response carries one (R32). -/
def State.checkFailed (s : State) (reason : Nat) (signature : Option (BitVec 32)) : Answer :=
  ⟨s.work, .checkFailed, byte reason ++ optional 4 (fun v => field 4 v.toNat) signature⟩

/-- COMMIT_SET's effect on a request that has its length (R32). -/
def commitSetRequest (params : List Byte) (s : State) : Answer :=
  match setAt 0 params with
  | none => s.refuse .refusedRange
  | some k =>
    let t := s.tableSet k
    if t.state ≠ .loading then s.refuse .refusedState
    else if !t.complete then s.checkFailed 0 none
    else
      let signature := t.computedSignature
      if !t.ordered then s.checkFailed 1 (some signature)
      else if signature.toNat ≠ natAt 1 4 params then s.checkFailed 2 (some signature)
      else
        (s.setTable k { t with state := .committed, signature := some signature,
                               curves := t.curves.map CurveSlot.committed }).answerDone
          (field 4 signature.toNat)

/-- DISCARD_SET's effect on a request that has its length (R35). -/
def discardSetRequest (params : List Byte) (s : State) : Answer :=
  match setAt 0 params with
  | none => s.refuse .refusedRange
  | some k =>
    if s.referenced k then s.refuse .refusedInUse
    else ((s.setTable k .emptySet).resetShifts k).answerDone []

/-! ### READ_SET_INFO (R36) -/

/-- The point count of a held curve. -/
def CurveSlot.pointCount : CurveSlot → Option Nat
  | .curve points => some points.length
  | .noCurve | .notLoaded => none

/-- The payload of READ_SET_INFO (R36; layout log 12). -/
def setInfo (s : State) (k : SetNo) : List Byte :=
  let t := s.tableSet k
  byte t.state.code ++
  optional 1 (fun z => byte z.temp) t.sizes ++
  optional 1 (fun z => byte z.dens) t.sizes ++
  flag t.tempAxis.isSome ++ flag t.densAxis.isSome ++
  ((List.range 8).flatMap fun j => flag (t.rows.getD j none).isSome) ++
  (t.curves.toList.flatMap fun c => byte c.code ++ optional 1 byte c.pointCount) ++
  optional 4 (fun v => field 4 v.toNat) t.signature ++
  byte (s.batchReferences k) ++ flag (s.proveNames k)

/-- READ_SET_INFO's effect on a request that has its length (R36). -/
def readSetInfoRequest (params : List Byte) (s : State) : Answer :=
  match setAt 0 params with
  | none => s.refuse .refusedRange
  | some k => s.report (setInfo s k)

/-! ### The commands -/

/-- BEGIN_LOAD (R28). -/
def execBeginLoad (s : State) : Host.Outcome State Fault Refusal := .next (s.request 7 beginLoadRequest)

/-- LOAD_SEGMENT (R30). -/
def execLoadSegment (s : State) : Host.Outcome State Fault Refusal :=
  .next (s.request 8 loadSegmentRequest)

/-- COMMIT_SET (R32). -/
def execCommitSet (s : State) : Host.Outcome State Fault Refusal := .next (s.request 9 commitSetRequest)

/-- DISCARD_SET (R35). -/
def execDiscardSet (s : State) : Host.Outcome State Fault Refusal :=
  .next (s.request 10 discardSetRequest)

/-- READ_SET_INFO (R36). -/
def execReadSetInfo (s : State) : Host.Outcome State Fault Refusal :=
  .next (s.request 11 readSetInfoRequest)

end Sys2Proof.Machine
end

