-- ==== Sys2Proof/Machine/Chain.lean ====
section
/-!
DEFINITION. The Measurement Chain (Chapter 3): the course of one pulse frame through the stages of
Figure 3-1, with PULSE_FRAME.
-/

namespace Sys2Proof.Machine

/-! ### What a frame brings to the chain (R7, R49) -/

/-- The three counts of a PULSE frame (R186). -/
def Frame.counts (f : Frame) : Counts :=
  ⟨natAt 3 4 f.payload, natAt 7 4 f.payload, natAt 11 4 f.payload⟩

/-- A difference of two 32-bit counts, mod 2³² (R7). -/
def delta (new base : Nat) : Nat := (new + Config.counterModulus - base) % Config.counterModulus

/-- The deltas of the counts from the baselines (R7). -/
def Counts.since (new base : Counts) : Counts :=
  ⟨delta new.a base.a, delta new.b base.b, delta new.elapsed base.elapsed⟩

/-! ### Rate (R51) -/

/-- A rate with its saturated mark (R51). -/
structure Rate where
  q : Nat
  saturated : Bool
  deriving DecidableEq, Repr

/-- The rate of ΔA pulses in Δt at a K-factor (R51). The saturation test is made on the rounded quotient, so
that an exact 99,999,999.3 is no saturated rate (the model's choice, log 32). -/
def formRate (kmilli : Nat) (d : Counts) : Rate :=
  let q := roundNat (d.a * 3600000000000000) (kmilli * d.elapsed)
  if Config.maxRate < q then ⟨Config.maxRate, true⟩ else ⟨q, false⟩

/-! ### Inputs and factors (R55 to R60) -/

/-- The inputs in use of a booked frame (R56). -/
structure Inputs where
  temp : InUse
  pres : InUse
  water : InUse
  shift : Nat
  deriving DecidableEq, Repr

/-- The inputs as they stand, on a batch's set (R56). -/
def State.inputs (s : State) (r : RunNo) (b : BatchEntry) : Inputs :=
  ⟨s.tempInUse r, s.presInUse r, s.waterInUse, s.shift r b.set⟩

/-- All three inputs are good (R56). -/
def Inputs.good (i : Inputs) : Bool := i.temp.good && i.pres.good && i.water.good

/-- The readings of a booked frame: the factors, and what they were read off (R57 to R60). -/
structure Reading where
  factors : Factors
  missing : Bool
  curveLimit : Bool
  mfClamped : Bool
  gridLimit : Bool
  deriving DecidableEq, Repr

/-- The meter factor, grid, pressure and combined stages (R57 to R60). -/
def readFactors (t : TableSet) (r : RunNo) (rho q : Nat) (i : Inputs) : Reading :=
  let curve := curveLookup (t.curves.get r) q
  let shifted := applyPpm curve.mfc i.shift
  let mf := clampMf shifted
  let grid := gridLookup t i.temp.value rho
  let cpl := pressureFactor grid.f i.pres.value.toNat
  { factors := ⟨mf, grid.ctl, cpl, applyPpm (applyPpm grid.ctl cpl) mf⟩
    missing := curve.missing
    curveLimit := curve.atLimit
    mfClamped := mf != shifted
    gridLimit := grid.atLimit }

/-! ### Increments (R61) -/

/-- The four increments of a booked frame (R61). -/
structure Increments where
  iv : Nat
  gsv : Nat
  nsv : Nat
  mass : Nat
  deriving DecidableEq, Repr

/-- The increments, each a floor division that carries the run's residue (R61). -/
def increments (c : ChainRecord) (kmilli pulses ccf water rho : Nat) : Increments :=
  let iv := (pulses * 1000000000 + c.ivRes) / kmilli
  let gsv := (iv * ccf + c.gsvRes) / 1000000
  { iv := iv
    gsv := gsv
    nsv := (gsv * (1000000 - water) + c.nsvRes) / 1000000
    mass := (gsv * rho + c.massRes) / 100000 }

/-- The residues replaced by the remainders of the four divisions (R61, R62). -/
def ChainRecord.carry (c : ChainRecord) (kmilli pulses ccf water rho : Nat) : ChainRecord :=
  let i := increments c kmilli pulses ccf water rho
  { c with
    ivRes := (pulses * 1000000000 + c.ivRes) % kmilli
    gsvRes := (i.iv * ccf + c.gsvRes) % 1000000
    nsvRes := (i.gsv * (1000000 - water) + c.nsvRes) % 1000000
    massRes := (i.gsv * rho + c.massRes) % 100000 }

/-! ### Booking (R64 to R66) -/

/-- A run record with a frame booked: its pulses and increments, the degraded NSV, and the six
flow-weighted sums (R64, R65). -/
def RunRecord.book (a : RunRecord) (pulses : Nat) (i : Increments) (degraded : Bool) (inp : Inputs)
    (f : Factors) : RunRecord :=
  { pulses := a.pulses + pulses
    iv := a.iv + i.iv
    gsv := a.gsv + i.gsv
    nsv := a.nsv + i.nsv
    mass := a.mass + i.mass
    degraded := if degraded then a.degraded + i.nsv else a.degraded
    sumT := a.sumT + inp.temp.value * i.iv
    sumP := a.sumP + inp.pres.value.toNat * i.iv
    sumMf := a.sumMf + f.mf * i.iv
    sumCtl := a.sumCtl + f.ctl * i.iv
    sumCpl := a.sumCpl + f.cpl * i.iv
    sumSw := a.sumSw + inp.water.value.toNat * i.iv }

/-- A batch with a frame of a run booked to it. -/
def BatchEntry.bookRun (b : BatchEntry) (r : RunNo) (f : RunRecord → RunRecord) : BatchEntry :=
  { b with records := b.records.set r (f (b.records.get r)) }

/-- The flags that a booked frame gives its run (R54, R55, R57, R58). -/
def bookedFlags (c : RunConfig) (d : Counts) (q : Nat) (x : Reading) (old : RunFlags) : RunFlags :=
  { flowingClosed := old.flowingClosed
    aboveMax := decide (c.maxRate < q)
    pulseMismatch := c.dual && decide (c.tolerance < ((d.a : Int) - d.b).natAbs)
    curveLimit := x.curveLimit
    curveMissing := x.missing
    gridLimit := x.gridLimit }

/-- A booked frame is degraded (R63). -/
def degraded (c : RunConfig) (rate : Rate) (i : Inputs) (x : Reading) : Bool :=
  !i.good || x.missing || x.curveLimit || x.mfClamped || x.gridLimit || decide (c.maxRate < rate.q) ||
    rate.saturated

/-- The booking of a frame to the batch active at its processing (R54 to R67, R72 to R74): the run
METERING, its flags, the totalizers and the batch's run record, the last factors, and the target check.
An open run of a commissioned part has a K-factor and an active batch (log 24). -/
def State.bookFrame (s : State) (r : RunNo) (b : BatchEntry) (kmilli : Nat) (rate : Rate) (d : Counts) :
    Work :=
  let s := s.setRun r { s.run r with state := .metering }
  let u := s.run r
  let inp := s.inputs r b
  let x := readFactors (s.tableSet b.set) r b.rho rate.q inp
  let s := s.setFlags r (bookedFlags u.config d rate.q x (s.chainOf r).flags)
  let c := s.chainOf r
  let water := inp.water.value.toNat
  let i := increments c kmilli d.a x.factors.ccf water b.rho
  let deg := degraded u.config rate inp x
  let s := s.setTotals r ((s.totalsOf r).add i.iv i.gsv i.nsv i.mass)
  let s := s.mapActive fun b => b.bookRun r fun a => a.book d.a i deg inp x.factors
  let s := s.setChain r
    { c.carry kmilli d.a x.factors.ccf water b.rho with
      lastFactors := some x.factors, lastDegraded := deg }
  s.targetCheck

/-! ### The run-state decision (R52 to R54) -/

/-- A 32-bit pulse counter with pulses added, wrapping to 0 (R52, R53). -/
def addPulses (counter pulses : Nat) : Nat := (counter + pulses) % Config.counterModulus

/-- A frame that is not booked because the run is CLOSED or the device UNCOMMISSIONED (R52). -/
def State.unbookedFrame (s : State) (r : RunNo) (d : Counts) : State :=
  let u := s.run r
  let s := s.setRun r { u with unbooked := addPulses u.unbooked d.a }
  if u.state == .closed && !s.uncommissioned then
    s.setFlags r { (s.chainOf r).flags with flowingClosed := decide (0 < d.a) }
  else s

/-- A frame of an open run below the low-flow cutoff (R53). -/
def State.cutoffFrame (s : State) (r : RunNo) (d : Counts) : State :=
  let u := s.run r
  let s := s.setRun r { u with cutoffPulses := addPulses u.cutoffPulses d.a, state := .idle }
  s.clearMeteringFlags r

/-- The run-state decision on a frame with its rate, where the run is configured (R52 to R54). -/
def State.decideFrame (s : State) (r : RunNo) (d : Counts) (kmilli : Nat) (rate : Rate) : Work :=
  let u := s.run r
  if u.state = .closed then (s.unbookedFrame r d).work
  else
    match s.activeBatch with
    | none => (s.unbookedFrame r d).work
    | some b =>
      if rate.q < u.config.cutoff then (s.cutoffFrame r d).work else s.bookFrame r b kmilli rate d

/-- The rate stage and what follows, to the end of the frame (R51 to R69). A run that is not configured
is CLOSED: its frame has no rate and is not handed off. Snapshot slots join the result order stage by stage:
those that a batch opening triggers at the target check stand before the slot that the report hand-off of
the same frame triggers (the model's choice, log 35). -/
def State.plausibleFrame (s : State) (r : RunNo) (d : Counts) : Work :=
  match (s.run r).config.kmilli with
  | none => ((s.unbookedFrame r d).work).andThen (·.endOfFrame r)
  | some k =>
    let rate := formRate k d
    let s := s.setChain r { s.chainOf r with lastRate := some rate.q }
    ((s.decideFrame r d k rate).map (·.reportHandOff r)).andThen (·.endOfFrame r)

/-- The PULSE record of a slot takes new baselines; its quality is GOOD from its first accepted frame
(R6, R8). -/
def State.takeBaselines (s : State) (slot : Nat) (e : MapEntry) (c : Counts) : State :=
  s.setSlot slot (some { e with record := { e.record with quality := .good, base := some c } })

/-- The use of an accepted PULSE frame (R6 to R8, R50): a baseline frame ends the frame at once; a frame
whose elapsed time did not move is implausible and leaves the baselines. Any frame after the first finds
baselines (log 24). -/
def usePulse (f : Frame) (slot : Nat) (e : MapEntry) (c : Acceptance) (s : State) : Work :=
  match e.role with
  | .pulse r =>
    if c.baseline then (s.takeBaselines slot e f.counts).endOfFrame r
    else
      let d := f.counts.since (e.record.base.getD ⟨0, 0, 0⟩)
      if d.elapsed = 0 then (s.occur .frameImplausible slot).endOfFrame r
      else (s.takeBaselines slot e f.counts).plausibleFrame r d
  | .runTemp _ | .runPres _ | .headerDens | .headerWater | .prover => s.work

/-! ### The command -/

/-- PULSE_FRAME (R4 to R8, R49 to R69). -/
def execPulseFrame (s : State) : Host.Outcome State Fault Refusal :=
  .next (s.dispatchSample kindPulse usePulse)

end Sys2Proof.Machine
end

