-- ==== Sys2Proof/Machine/Conditions.lean ====
section
/-!
DEFINITION. The requests of the Condition Unit (section 7.6): ACK_CONDITIONS, SET_LEVELS and
READ_CONDITIONS, with the fields of an entry and of a notice that reports share.
-/

namespace Sys2Proof.Machine

/-! ### ACK_CONDITIONS (R150) -/

/-- The numbers of the entries that wait for acknowledgement. -/
def State.unackNumbers (s : State) : List Nat :=
  (s.numberedEntries.filter fun e => e.2.state.unack).map (·.1)

/-- The entries acknowledged in order, with the number whose state changed (R142, R150). -/
def acknowledgeAll : List Nat → State → State × Nat
  | [], s => (s, 0)
  | n :: rest, s =>
    let (t, changed) := acknowledgeAll rest (s.acknowledge n)
    (t, if (s.entry n).state.unack then changed + 1 else changed)

/-- The answer of an accepted ACK_CONDITIONS: the number changed and the summary level after it. -/
def State.ackAnswer (s : State) (numbers : List Nat) : Answer :=
  let (t, changed) := acknowledgeAll numbers s
  t.answerDone (byte changed ++ byte t.summaryLevel)

/-- ACK_CONDITIONS on a request that has its length: ALL 0 or LIST 1 (R150; log 16). -/
def ackConditionsRequest (params : List Byte) (s : State) : Answer :=
  match natAt 0 1 params with
  | 0 => s.ackAnswer s.unackNumbers
  | 1 =>
    let numbers := (params.drop 2).map BitVec.toNat
    if within 1 64 numbers.length && numbers.all (within 1 Config.conditionEntries) then
      s.ackAnswer numbers
    else s.refuse .refusedRange
  | _ => s.refuse .refusedRange

/-! ### SET_LEVELS (R151) -/

/-- The eight levels of a SET_LEVELS, in the order of R141. -/
def levelsOf (params : List Byte) : Levels :=
  ⟨natAt 0 1 params, natAt 1 1 params, natAt 2 1 params, natAt 3 1 params, natAt 4 1 params,
   natAt 5 1 params, natAt 6 1 params, natAt 7 1 params⟩

/-- An entry whose class is at level 0 is not pending (R151). -/
def clearAtZero (levels : Levels) (n : Nat) (e : CondEntry) : CondEntry :=
  if levels.get (kindOfEntry n).cls = 0 then { e with pending := false } else e

/-- No notice is pending (R151). -/
def Notices.clearPending (t : Notices) : Notices :=
  { batchChanged := { t.batchChanged with pending := false }
    ticketClosed := { t.ticketClosed with pending := false }
    proveState := t.proveState.map fun n => { n with pending := false }
    deviceState := { t.deviceState with pending := false } }

/-- The levels replaced (R151). A class that was at level 0 already has no entry pending, so that clearing
the entries of every class at level 0 clears those of a class that goes to it. -/
def ConditionUnit.setLevels (u : ConditionUnit) (levels : Levels) : ConditionUnit :=
  { u with
    entries := (u.entries.zipIdx 1).map fun (e, n) => clearAtZero levels n e
    levels := levels
    notices := if levels.notice = 0 then u.notices.clearPending else u.notices }

/-- The eight levels in a payload. -/
def Levels.bytes (l : Levels) : List Byte := l.toList.flatMap byte

/-- SET_LEVELS on a request that has its length (R151). -/
def setLevelsRequest (params : List Byte) (s : State) : Answer :=
  let levels := levelsOf params
  if levels.toList.all (within 0 3) then
    ({ s with cond := s.cond.setLevels levels }).answerDone s.cond.levels.bytes
  else s.refuse .refusedRange

/-! ### The fields of an entry and of a notice (R146, R149, R187) -/

/-- The fields of an entry that a condition report carries, with the class level as it stands (R146). -/
def State.entryFields (s : State) (n : Nat) (e : CondEntry) : List Byte :=
  let k := kindOfEntry n
  byte n ++ byte k.code ++ byte (sourceOfEntry n) ++ byte k.cls.code ++ byte (s.levelOf k) ++
  byte e.state.code ++ field 2 e.count ++
  optional 4 (fun x : RaiseStamp => field 4 x.time) e.raised ++
  flag (match e.raised with
    | some x => x.valid
    | none => false) ++
  optional 4 (fun x : RaiseStamp => field 4 x.seq) e.raised

/-- The content fields of BATCH_CHANGED, each optional (R149, R187). -/
def batchChangedFields : Option NoticeContent → List Byte
  | some (.batchChanged (some (seq, nomination))) =>
    optional 4 (field 4) (some seq) ++ optional 4 (field 4) (some nomination)
  | _ => optional 4 (field 4) none ++ optional 4 (field 4) none

/-- The content fields of TICKET_CLOSED. -/
def ticketClosedFields : Option NoticeContent → List Byte
  | some (.ticketClosed seq held) => optional 4 (field 4) (some seq) ++ optional 1 byte (some held)
  | _ => optional 4 (field 4) none ++ optional 1 byte none

/-- The content fields of PROVE_STATE: the state, the recorded set, the outcome, the shift and the
deviation, which has the 4 bytes of a ppm factor (log 34). -/
def proveStateFields : Option NoticeContent → List Byte
  | some (.proveState stage set outcome shift deviation) =>
    optional 1 byte (some stage.code) ++ optional 1 (fun k : SetNo => byte k.toNat) set ++
    optional 1 (fun o : ProveOutcome => byte o.code) outcome ++ optional 4 (field 4) shift ++
    optional 4 (field 4) deviation
  | _ =>
    optional 1 byte none ++ optional 1 byte none ++ optional 1 byte none ++
    optional 4 (field 4) none ++ optional 4 (field 4) none

/-- The content fields of DEVICE_STATE. -/
def deviceStateFields : Option NoticeContent → List Byte
  | some (.deviceState d) => optional 1 byte (some d.code)
  | _ => optional 1 byte none

/-- The content fields of a notice, a fixed list for its number (R187). -/
def NoticeId.fields (id : NoticeId) (content : Option NoticeContent) : List Byte :=
  match id with
  | .batchChanged => batchChangedFields content
  | .ticketClosed => ticketClosedFields content
  | .proveState _ => proveStateFields content
  | .deviceState => deviceStateFields content

/-! ### READ_CONDITIONS (R152; layout log 12) -/

/-- The fields that end every READ_CONDITIONS response. -/
def State.tableFields (s : State) : List Byte :=
  byte s.summaryLevel ++ s.cond.levels.bytes ++ field 4 s.cond.raiseSeq

/-- The entries that a selection chooses; none for an unknown selection or class (R152). -/
def State.chosen (s : State) (selection cls : Nat) : Option (List (Nat × CondEntry)) :=
  match selection with
  | 0 => some s.numberedEntries
  | 1 => some (s.numberedEntries.filter fun e => decide (e.2.state ≠ .normal))
  | 2 => some (s.numberedEntries.filter fun e => e.2.state.unack)
  | 3 =>
    (CondClass.ofCode? cls).map fun c =>
      s.numberedEntries.filter fun e => decide ((kindOfEntry e.1).cls = c)
  | _ => none

/-- The seven notices. -/
def State.noticeList (s : State) : List Byte :=
  NoticeId.all.flatMap fun id =>
    let n := s.notice id
    id.fields n.content ++ optional 4 (field 4) n.time ++ flag n.pending ++
    optional 4 (field 4) n.seq ++ byte n.count

/-- READ_CONDITIONS on a request that has its length: ALL 0, NOT_NORMAL 1, UNACK 2, CLASS 3 or NOTICES 4
(R152; log 29). -/
def readConditionsRequest (params : List Byte) (s : State) : Answer :=
  let start := natAt 2 1 params
  if natAt 0 1 params = 4 then s.report (s.noticeList ++ s.tableFields)
  else
    match s.chosen (natAt 0 1 params) (natAt 1 1 params) with
    | none => s.refuse .refusedRange
    | some entries =>
      if !within 1 Config.conditionEntries start then s.refuse .refusedRange
      else
        let onward := entries.filter fun e => decide (start ≤ e.1)
        let carried := onward.take Config.conditionsPerReading
        let next := (onward.drop Config.conditionsPerReading).head?.map (·.1)
        s.report ((carried.flatMap fun e => s.entryFields e.1 e.2 ++ flag e.2.pending) ++
          optional 1 byte next ++ s.tableFields)

/-! ### The commands -/

/-- ACK_CONDITIONS (R150). -/
def execAckConditions (s : State) : Host.Outcome State Fault Refusal :=
  .next (s.request 28 ackConditionsRequest)

/-- SET_LEVELS (R151). -/
def execSetLevels (s : State) : Host.Outcome State Fault Refusal := .next (s.request 29 setLevelsRequest)

/-- READ_CONDITIONS (R152). -/
def execReadConditions (s : State) : Host.Outcome State Fault Refusal :=
  .next (s.request 30 readConditionsRequest)

end Sys2Proof.Machine
end

