-- ==== Sys2Proof/Machine/Inbound.lean ====
section
/-!
DEFINITION. The Inbound Port (Chapter 8): reception, arrival under the policy, and the dispatches that
reach neither the Point Unit nor a block's own request: RECEPTION_START, FRAME_END, FORWARD_DISPATCH,
TRIGGER_FRAME, INVALID_OWN_FRAME, UNKNOWN_REQUEST and SET_INBOUND_POLICY.
-/

namespace Sys2Proof.Machine

/-! ### Reception (R154 to R156) -/

/-- Replace the frame in reception. -/
def State.setReception (s : State) (x : Reception) : State :=
  { s with inbound := { s.inbound with reception := x } }

/-- Replace the frames in the FIFO. -/
def State.setFifo (s : State) (l : List Frame) : State := { s with inbound := { s.inbound with fifo := l } }

/-- A frame arrives: it joins the tail, or meets the policy where 16 frames are held (R156). -/
def State.arrive (s : State) (f : Frame) : State :=
  let fifo := s.inbound.fifo
  if fifo.length < Config.inboundCapacity then s.setFifo (fifo ++ [f])
  else
    match s.inbound.policy with
    | .hold | .dropNewest => s.occur .inboundDrop 1
    | .dropOldestSample =>
      if fifo.any Frame.isSample then (s.setFifo (fifo.eraseP Frame.isSample ++ [f])).occur .inboundDrop 1
      else s.occur .inboundDrop 1

/-- SET_INBOUND_POLICY on a request that has its length (R157). -/
def setInboundPolicyRequest (params : List Byte) (s : State) : Answer :=
  match Policy.ofCode? (natAt 0 1 params) with
  | none => s.refuse .refusedRange
  | some p =>
    ({ s with inbound := { s.inbound with policy := p } }).answerDone (byte s.inbound.policy.code)

/-! ### Heads that are no sample and no known request (R158 to R161) -/

/-- The dispatch of the head where a step takes it (R158). -/
def State.dispatchHead (s : State) (use : Frame → State → State) : State :=
  s.whenRunning fun s =>
    match s.inbound.fifo with
    | [] => s
    | f :: _ => use f s

/-- A broadcast frame of the right length is taken where it is a TRIGGER or a sample of a mapped point
(R160). -/
def State.takesBroadcast (s : State) (f : Frame) : Bool :=
  f.rightLength && (f.kind == kindTrigger || (s.sampleEntry f).isSome)

/-- The kind is one of the 38 (R183). -/
def Frame.knownRequest (f : Frame) : Bool := within 1 38 f.requestKind

/-! ### The commands -/

/-- RECEPTION_START (R154, R155): the claim is present where the ready line is asserted under HOLD. One
frame is in reception at a time (log 2). -/
def execReceptionStart (s : State) : Host.Outcome State Fault Refusal :=
  .next <| s.whenRunning fun s =>
    if s.inbound.reception = .none then
      s.setReception (if s.inbound.policy = .hold ∧ s.inboundReady then .claimed else .unclaimed)
    else s

/-- FRAME_END (R154 to R156): the claim ends, and the frame arrives or fails its check. With no frame in
reception none ends (log 2). -/
def execFrameEnd (bytes : List Byte) (s : State) : Host.Outcome State Fault Refusal :=
  .next <| s.whenRunning fun s =>
    if s.inbound.reception = .none then s
    else
      let s := s.setReception .none
      match parseFrame bytes with
      | some f => s.arrive f
      | none => s.occur .checkError 1

/-- FORWARD_DISPATCH (R158, R160): a head for another node, or a broadcast the part does not take, moves
to the Forward Queue; it waits while that queue is full. -/
def execForwardDispatch (s : State) : Host.Outcome State Fault Refusal :=
  .next <| s.dispatchHead fun f s =>
    if !s.isOwn f && !(f.isBroadcast && s.takesBroadcast f) && s.forwardRoom then
      s.popHead.appendForward f
    else s

/-- TRIGGER_FRAME (R159 to R161): every EXTERNAL slot is triggered; a broadcast is then forwarded. -/
def execTriggerFrame (s : State) : Host.Outcome State Fault Refusal :=
  .next <| s.dispatchHead fun f s =>
    if f.kind = kindTrigger ∧ f.rightLength = true then
      if s.isOwn f then s.popHead.triggerAll .external
      else if f.isBroadcast && s.forwardRoom then (s.popHead.triggerAll .external).appendForward f
      else s
    else s

/-- INVALID_OWN_FRAME (R159): an own-node frame that is no request to answer and no sample or TRIGGER of
the right length is discarded with CHECK_ERROR. -/
def execInvalidOwnFrame (s : State) : Host.Outcome State Fault Refusal :=
  .next <| s.dispatchHead fun f s =>
    if s.isOwn f && !s.isRequest f && !f.rightLength then s.popHead.occur .checkError 1 else s

/-- UNKNOWN_REQUEST (R176): a kind that is not one of the 38, answered without payload. -/
def execUnknownRequest (s : State) : Host.Outcome State Fault Refusal :=
  .next <| s.dispatchRequest (fun f => !f.knownRequest) fun _ s => s.refuse .unknownRequest

/-- SET_INBOUND_POLICY (R157). -/
def execSetInboundPolicy (s : State) : Host.Outcome State Fault Refusal :=
  .next (s.request 31 setInboundPolicyRequest)

end Sys2Proof.Machine
end

