-- ==== Sys2Proof/Machine/Management.lean ====
section
/-!
DEFINITION. The Management Unit (Chapter 10) and the resets (R190): POWER_ON_RESET, RESET_END,
STATION_TIME_ADVANCE, COMMISSION, DECOMMISSION, RESTART, SET_TIME and READ_STATUS.
-/

namespace Sys2Proof.Machine

/-! ### COMMISSION and DECOMMISSION (R178, R179) -/

/-- COMMISSION (R178): the device is MEASURING for the opening, so that what the opening judges and
captures sees the batch active. -/
def commissionRequest (_params : List Byte) (s : State) : Answer :=
  if !s.uncommissioned || s.batch.schedule.isEmpty then s.refuse .refusedState
  else
    let w := (s.work.setDevice .measuring).andThen State.openHead
    w.done (field 4 w.state.batch.counter)

/-- What DECOMMISSION does to the active batch (R93). -/
def State.decommissionClose (s : State) : CloseStep :=
  match s.activeBatch.bind (·.closing) with
  | none => s.beginClose .decommission
  | some c =>
    (s.mapActive fun b => { b with closing := some { c with decommissionMark := true } }).retestClose
      s.standing

/-- DECOMMISSION (R179): every prove ends, then the active batch closes or waits. -/
def decommissionRequest (_params : List Byte) (s : State) : Answer :=
  if s.mgmt.device ≠ .measuring then s.refuse .refusedState
  else
    let w := s.endAllProves
    let step := w.state.decommissionClose
    let w := w.andThen fun _ => step.work
    match step.closed with
    | some seq => w.done (field 4 seq)
    | none => (w.setDevice .decommissioning).pendingAnswer []

/-! ### RESTART (R180) -/

/-- Every live value record fresh (R25). -/
def State.freshMap (s : State) : List (Option MapEntry) :=
  s.points.map.map fun e => e.map fun e => { e with record := s.freshRecord e.role }

/-- A snapshot slot at a RESTART: not pending, a count of 0, its reference value and settings kept
(R174; log 23). -/
def SnapSlot.restarted {α : Type} (slot : SnapSlot α) : SnapSlot α :=
  { slot with pending := false, coalesce := 0 }

/-- Every block at its RESTART values (R25, R76, R99, R115, R139, R153, R162 to R164, R174, R180). -/
def State.restarted (s : State) : State :=
  { s with
    points := { s.points with map := s.freshMap }
    chain := s.chain.map fun c => { c with flags := .clear }
    batch := { s.batch with schedule := [], detector := .inside }
    prover := { s.prover with queue := [], records := .const ⟨.none, none⟩ }
    cond := { s.cond with
      entries := List.replicate Config.conditionEntries .normal, notices := .blank }
    reports := { s.reports with
      runSlots := s.reports.runSlots.map SnapSlot.restarted
      headerSlot := s.reports.headerSlot.restarted
      order := [] }
    inbound := { s.inbound with fifo := [] }
    forward := []
    responses := [] }

/-- RESTART (R180). -/
def restartRequest (_params : List Byte) (s : State) : Answer :=
  if !s.uncommissioned then s.refuse .refusedState else s.restarted.answerDone []

/-! ### SET_TIME and READ_STATUS (R181, R182) -/

/-- SET_TIME on a request that has its length (R181). -/
def setTimeRequest (params : List Byte) (s : State) : Answer :=
  ({ s with mgmt :=
    { s.mgmt with stationTime := natAt 0 4 params, timeValid := true, secondStart := s.now } }).answerDone
    (field 4 s.mgmt.stationTime ++ flag s.mgmt.timeValid)

/-- The payload of READ_STATUS (R182; log 22). -/
def State.statusBytes (s : State) : List Byte :=
  byte s.mgmt.device.code ++ byte s.mgmt.nodeAddress ++ field 4 s.mgmt.stationTime ++
  flag s.mgmt.timeValid ++ byte s.inbound.fifo.length ++ byte s.fillState ++
  byte s.inbound.policy.code ++ byte s.forward.length ++ byte s.responses.length ++
  byte s.batch.schedule.length ++ optional 4 (field 4) (s.activeBatch.bind (·.seq)) ++
  flag s.closePendingFlag ++ byte s.tickets.length ++ byte s.prover.queue.length ++
  optional 1 (fun r : RunNo => byte r.toNat) s.activeProve ++ byte s.summaryLevel

/-- READ_STATUS on a request that has its length (R182). -/
def readStatusRequest (_params : List Byte) (s : State) : Answer := s.report s.statusBytes

/-! ### The commands -/

/-- POWER_ON_RESET (R190): every value the chapters give, and the part held in reset. The commands that
wait and the level of the downstream ready pin are no state of the part (log 7). -/
def execPowerOnReset (s : State) : Host.Outcome State Fault Refusal :=
  .next
    { State.reset with
      outbound := { State.reset.outbound with downstreamReady := s.outbound.downstreamReady }
      pending := s.pending }

/-- RESET_END (R180, R181, R190): the straps are read, and the Timebase, the idle time and the station
second start. A part that is not held in reset does not leave one (log 2). -/
def execResetEnd (nodeStraps : BitVec 8) (rateStraps : BitVec 2) (s : State) :
    Host.Outcome State Fault Refusal :=
  .next <|
    if s.held then
      { s with
        held := false
        mgmt := { s.mgmt with
          nodeAddress := nodeStraps.toNat, linkRate := rateStraps.toNat, secondStart := s.now }
        outbound := { s.outbound with idleStart := s.now } }
    else s

/-- STATION_TIME_ADVANCE (R181): the station time rises by 1 at the end of its 1,000 ms. -/
def execStationTimeAdvance (s : State) : Host.Outcome State Fault Refusal :=
  .next <| s.whenRunning fun s =>
    let due := s.mgmt.secondStart + 1000
    let s := s.passTo due
    { s with mgmt :=
      { s.mgmt with
        stationTime := (s.mgmt.stationTime + 1) % Config.counterModulus, secondStart := due } }

/-- COMMISSION (R178). -/
def execCommission (s : State) : Host.Outcome State Fault Refusal := .next (s.request 34 commissionRequest)

/-- DECOMMISSION (R179). -/
def execDecommission (s : State) : Host.Outcome State Fault Refusal :=
  .next (s.request 35 decommissionRequest)

/-- RESTART (R180). -/
def execRestart (s : State) : Host.Outcome State Fault Refusal := .next (s.request 36 restartRequest)

/-- SET_TIME (R181). -/
def execSetTime (s : State) : Host.Outcome State Fault Refusal := .next (s.request 37 setTimeRequest)

/-- READ_STATUS (R182). -/
def execReadStatus (s : State) : Host.Outcome State Fault Refusal := .next (s.request 38 readStatusRequest)

end Sys2Proof.Machine
end

