-- ==== Sys2Proof/Machine/Outbound.lean ====
section
/-!
DEFINITION. The Outbound Port (sections 9.1 and 9.2, 11.4): sources, selection, transmission start and the
frames the part originates, with TRANSMISSION_START, TRANSMISSION_COMPLETE, DOWNSTREAM_READY_CHANGE,
IDLE_INTERVAL_REACHED and SET_SLOT_PLAN.
-/

namespace Sys2Proof.Machine

/-! ### The CONDITION source (R146, R149) -/

/-- What a condition or notice report carries. -/
inductive Reported
  | entry (n : Nat)
  | notice (id : NoticeId)
  deriving DecidableEq, Repr

/-- A pending entry or notice, with the level and the age that order it. -/
structure Offer where
  what : Reported
  level : Nat
  age : Nat
  deriving DecidableEq, Repr

/-- How long ago a raise sequence was taken, in sequences: the counter runs on from 4,294,967,295 to 1
(R144; log 11). -/
def State.sequenceAge (s : State) (seq : Nat) : Nat :=
  (s.cond.raiseSeq + Config.sequenceTop - seq) % Config.sequenceTop

/-- The pending entries and notices. A pending one has a sequence (R146; log 24). -/
def State.offers (s : State) : List Offer :=
  (s.numberedEntries.filterMap fun (n, e) =>
    if e.pending then
      some ⟨.entry n, s.levelOf (kindOfEntry n),
        s.sequenceAge (match e.raised with
          | some x => x.seq
          | none => 0)⟩
    else none) ++
  (NoticeId.all.filterMap fun id =>
    let n := s.notice id
    if n.pending then some ⟨.notice id, s.cond.levels.notice, s.sequenceAge (n.seq.getD 0)⟩ else none)

/-- The offer that goes first: the higher level, and at one level the earlier sequence (R146). -/
def Offer.before (a b : Offer) : Bool :=
  decide (b.level < a.level) || (a.level == b.level && decide (b.age < a.age))

/-- What the CONDITION source offers (R146). -/
def State.conditionOffer (s : State) : Option Reported :=
  (s.offers.foldl
    (fun (best : Option Offer) o =>
      match best with
      | none => some o
      | some b => if o.before b then some o else some b)
    none).map (·.what)

/-! ### Selection (R164, R165, R167) -/

/-- A source has content (R164). -/
def State.hasContent (s : State) : Source → Bool
  | .forward => !s.forward.isEmpty
  | .result => !s.reports.order.isEmpty
  | .response => !s.responses.isEmpty
  | .condition => s.conditionOffer.isSome
  | .none => false

/-- A source is valid (R167). -/
def State.sourceValid (s : State) : Source → Bool
  | .forward => true
  | .result | .condition => s.ownNode.isSome
  | .response =>
    !(s.outbound.previous == .response &&
      (s.hasContent .forward || s.hasContent .result || s.hasContent .condition))
  | .none => false

/-- A source that supplies a frame. -/
def State.supplies (s : State) (x : Source) : Bool := s.hasContent x && s.sourceValid x

/-- What a slot of the plan supplies: its primary, otherwise its fallback (R167). -/
def State.slotSupply (s : State) (slot : PlanSlot) : Option Source :=
  if s.supplies slot.primary then some slot.primary
  else if s.supplies slot.fallback then some slot.fallback
  else none

/-- The slots with their numbers in the order in which a selection examines them (R167). -/
def OutboundPort.scanOrder (u : OutboundPort) : List (Nat × PlanSlot) :=
  let slots := (u.plan.zipIdx 1).map fun (slot, i) => (i, slot)
  slots.drop (u.pointer - 1) ++ slots.take (u.pointer - 1)

/-- The first slot that supplies a frame, with its source (R167). -/
def State.scan (s : State) : Option (Nat × Source) :=
  s.outbound.scanOrder.findSome? fun (i, slot) => (s.slotSupply slot).map fun x => (i, x)

/-- The slot after a slot, wrapping to slot 1 (R167). -/
def OutboundPort.slotAfter (u : OutboundPort) (i : Nat) : Nat := if i < u.plan.length then i + 1 else 1

/-! ### Originated frames (R169, R185, R187) -/

/-- The status summary of the state as it stands (R169, R187). -/
def State.statusSummary (s : State) : List Byte :=
  byte (s.mgmt.device.code * 64 + s.fillState * 16 + s.summaryLevel * 4 +
    (if s.activeProve.isSome then 2 else 0) + (if s.closePendingFlag then 1 else 0)) ++
  byte s.tickets.length

/-- A frame the part originates: the own node as source, the status summary before its fields
(R185, R187). -/
def State.originate (s : State) (dest kind : Byte) (fields : List Byte) : Frame :=
  makeFrame dest (BitVec.ofNat 8 s.mgmt.nodeAddress) kind (s.statusSummary ++ fields)

/-- The fields of a response after the status summary. -/
def Response.fields (x : Response) : List Byte := x.tag :: x.kind :: (byte x.result.code ++ x.payload)

/-- A value in use with its quality and clamped flag. -/
def InUse.bytes (v : InUse) : List Byte := signedField 4 v.value ++ byte v.quality.code ++ flag v.clamped

/-- The four factors. -/
def Factors.bytes (f : Factors) : List Byte := field 4 f.mf ++ field 4 f.ctl ++ field 4 f.cpl ++ field 4 f.ccf

/-- The fields of a run snapshot after its slot and coalesce count (R187). -/
def RunSnapshot.fields (x : RunSnapshot) : List Byte :=
  byte x.state.code ++ flag x.closePending ++ optional 4 (field 4) x.rate ++ x.temp.bytes ++
  x.pres.bytes ++ optional 16 Factors.bytes x.factors ++ flag x.degraded ++
  optional 4 (field 4) x.seq ++
  optional 16 (fun v : BatchVolumes => signedField 8 v.gsv ++ signedField 8 v.nsv) x.volumes ++
  signedField 8 x.nsvTotal

/-- The fields of a header snapshot after its slot and coalesce count (R187). -/
def HeaderSnapshot.fields (x : HeaderSnapshot) : List Byte :=
  optional 4 (signedField 4) x.density ++ byte x.densQuality.code ++ x.water.bytes ++
  flag x.aboveHigh ++ optional 4 (field 4) x.seq ++ optional 8 (fun v : Nat => signedField 8 v) x.nsv ++
  optional 4 (field 4) x.target ++ flag x.closePending

/-- The fields of a notice report after the status summary. A pending notice has a time and a sequence
(R149; log 24). -/
def Notice.reportFields (n : Notice) (id : NoticeId) : List Byte :=
  byte 1 ++ byte id.number ++ field 4 (n.time.getD 0) ++ byte n.count ++ field 4 (n.seq.getD 0) ++
  id.fields n.content

/-! ### Transmission start (R168) -/

/-- The port starts a frame: it is busy, and the previous-frame kind follows the frame (R168). -/
def State.startFrame (s : State) (f : Frame) (kind : PreviousKind) : State :=
  { s with outbound := { s.outbound with sending := some f, previous := kind } }

/-- A slot whose content is frozen: not pending, a count of 0, and the frozen value as its reference
(R174). -/
def SnapSlot.sent {α : Type} (slot : SnapSlot α) (reference : Option Int) : SnapSlot α :=
  { slot with pending := false, coalesce := 0, reference := reference }

/-- The start of the snapshot at the head of the result order (R174). A slot in the result order holds a
content (log 24). -/
def State.startSnapshot (s : State) (id : SnapId) (rest : List SnapId) : State :=
  match id with
  | .run r =>
    let slot := s.reports.runSlots.get r
    let x := slot.content.getD (s.captureRun r)
    let f := s.originate stationNode kindSnapshot (byte r.toNat ++ byte slot.coalesce ++ x.fields)
    let runSlots := s.reports.runSlots.set r (slot.sent (x.rate.map fun q => (q : Int)))
    ({ s with reports := { s.reports with runSlots := runSlots, order := rest } }).startFrame f .other
  | .header =>
    let slot := s.reports.headerSlot
    let x := slot.content.getD s.captureHeader
    let f := s.originate stationNode kindSnapshot (byte 5 ++ byte slot.coalesce ++ x.fields)
    ({ s with reports := { s.reports with headerSlot := slot.sent x.density, order := rest } }).startFrame
      f .other

/-- The start of a condition or notice report (R146, R149). -/
def State.startReport (s : State) (x : Reported) : State :=
  match x with
  | .entry n =>
    let f := s.originate stationNode kindReport (byte 0 ++ s.entryFields n (s.entry n))
    (s.modifyEntry n fun e => { e with pending := false }).startFrame f .other
  | .notice id =>
    let n := s.notice id
    let f := s.originate stationNode kindReport (n.reportFields id)
    (s.setNotice id { n with pending := false, count := 0 }).startFrame f .other

/-- The start of the frame that a source offers: its content is frozen and leaves the source (R168). -/
def State.startSource (s : State) (x : Source) : State :=
  match x with
  | .forward =>
    match s.forward with
    | [] => s
    | f :: rest => ({ s with forward := rest }).startFrame f .other
  | .result =>
    match s.reports.order with
    | [] => s
    | id :: rest => s.startSnapshot id rest
  | .response =>
    match s.responses with
    | [] => s
    | x :: rest =>
      let f := s.originate x.dest kindResponse x.fields
      ({ s with responses := rest }).startFrame f .response
  | .condition =>
    match s.conditionOffer with
    | none => s
    | some x => s.startReport x
  | .none => s

/-- The idle time (R170). -/
def State.idleTime (s : State) : Nat := s.now - s.outbound.idleStart

/-- What a selection that finds nothing does: an IDLE frame at the idle interval, or a wait (R170). -/
def State.idleOrWait (s : State) : State :=
  if s.outbound.idleInterval ≤ s.idleTime ∧ s.ownNode.isSome then
    s.startFrame (s.originate stationNode kindIdle []) .other
  else s

/-- A selection, made where the port is not busy and the downstream ready line is asserted (R167). -/
def State.select (s : State) : State :=
  if s.outbound.sending.isNone && s.outbound.downstreamReady then
    match s.scan with
    | some (i, x) =>
      let s := s.startSource x
      { s with outbound := { s.outbound with pointer := s.outbound.slotAfter i } }
    | none => s.idleOrWait
  else s

/-! ### SET_SLOT_PLAN (R166) -/

/-- The slot of a plan from its two codes (R165). -/
def planSlotOf (params : List Byte) (i : Nat) : Option PlanSlot :=
  match Source.ofCode? (natAt (1 + 2 * i) 1 params), Source.ofCode? (natAt (2 + 2 * i) 1 params) with
  | some p, some f => some ⟨p, f⟩
  | _, _ => none

/-- A source appears in a plan. -/
def planNames (plan : List PlanSlot) (x : Source) : Bool :=
  plan.any fun slot => slot.primary == x || slot.fallback == x

/-- SET_SLOT_PLAN on a request that has its length (R166). -/
def setSlotPlanRequest (params : List Byte) (s : State) : Answer :=
  let count := natAt 0 1 params
  let interval := natAt 17 4 params
  match (List.range count).mapM (planSlotOf params) with
  | none => s.refuse .refusedRange
  | some plan =>
    if within 1 8 count && within 10 1000 interval && planNames plan .forward &&
        planNames plan .response && planNames plan .condition then
      ({ s with outbound :=
        { s.outbound with plan := plan, pointer := 1, idleInterval := interval } }).answerDone []
    else s.refuse .refusedRange

/-- The dispatch of a SET_SLOT_PLAN: an accepted one is followed by a selection, with its own response
queued (R166, R167). -/
def State.dispatchSlotPlan (s : State) : State :=
  s.whenRunning fun s =>
    match s.headRequest with
    | none => s
    | some f =>
      if f.requestKind = 32 then
        let a := if lengthFits 32 f.params then setSlotPlanRequest f.params s.popHead
          else s.popHead.refuse .badLength
        if a.result = .done then (a.conclude f).select else a.conclude f
      else s

/-! ### The commands -/

/-- IDLE_INTERVAL_REACHED (R170): the idle time reaches the interval, and the port selects. A busy port
has no idle time running (log 2). -/
def execIdleIntervalReached (s : State) : Host.Outcome State Fault Refusal :=
  .next <| s.whenRunning fun s =>
    if s.outbound.sending.isNone then
      (s.passTo (s.outbound.idleStart + s.outbound.idleInterval)).select
    else s

/-- DOWNSTREAM_READY_CHANGE (R167): the line takes a level; becoming asserted it makes a selection. The
pin follows its driver in a reset too (log 5). -/
def execDownstreamReadyChange (level : Bool) (s : State) : Host.Outcome State Fault Refusal :=
  let t := { s with outbound := { s.outbound with downstreamReady := level } }
  .next <|
    if level && !s.outbound.downstreamReady then t.whenRunning State.select else t

/-- TRANSMISSION_START (R167, R168): the selection made because a source gained content; with no source
holding content there is none (log 2, log 8). -/
def execTransmissionStart (s : State) : Host.Outcome State Fault Refusal :=
  .next <| s.whenRunning fun s =>
    if [Source.forward, .result, .response, .condition].any s.hasContent then s.select else s

/-- TRANSMISSION_COMPLETE (R167, R168, R170): the port is not busy, the idle time starts at 0, and the port
selects. With no frame in transmission none completes (log 2). -/
def execTransmissionComplete (s : State) : Host.Outcome State Fault Refusal :=
  .next <| s.whenRunning fun s =>
    if s.outbound.sending.isSome then
      ({ s with outbound := { s.outbound with sending := none, idleStart := s.now } }).select
    else s

/-- SET_SLOT_PLAN (R166). -/
def execSetSlotPlan (s : State) : Host.Outcome State Fault Refusal := .next s.dispatchSlotPlan

end Sys2Proof.Machine
end

