-- ==== Sys2Proof/Machine/Proving.lean ====
section
/-!
DEFINITION. Meter proving (Chapter 6): passes, completion and acceptance, with PASS_FRAME,
PASS_TIMER_EXPIRY, ACCEPT_TIMER_EXPIRY and the requests CONFIGURE_PROVER, REQUEST_PROVE, CANCEL_PROVE,
ACCEPT_PROVE, REJECT_PROVE, READ_PROVE and CLEAR_SHIFT.
-/

namespace Sys2Proof.Machine

/-! ### One pass (R122 to R124) -/

/-- What a PASS frame carries (section 6.3). -/
structure Pass where
  number : Nat
  np : Nat
  tp : Int
  pp : Nat
  ok : Bool
  deriving DecidableEq, Repr

/-- The pass of a PASS frame (R186). -/
def Frame.pass (f : Frame) : Pass :=
  { number := natAt 3 1 f.payload, np := natAt 4 4 f.payload, tp := intAt 8 4 f.payload,
    pp := natAt 12 4 f.payload, ok := natAt 16 1 f.payload == 0 }

/-- The pass is not invalid before any arithmetic (R122). -/
def Pass.plausible (p : Pass) : Bool :=
  p.ok && p.np != 0 && withinInt (-5000) 15000 p.tp && within 0 200000 p.pp

/-- The steel factor CSp (R123). -/
def steelFactor (c : ProverConfig) (p : Pass) : Int :=
  1000000 + roundDiv (c.alphaT * (p.tp - c.tref)) 100000 + roundNat (c.betaP * p.pp) 10000

/-- The prover volume at reference conditions GSVp, from the grid at the pass (R123). -/
def proverVolume (c : ProverConfig) (p : Pass) (grid : GridReading) : Nat :=
  let a := applyPpm (applyPpm (steelFactor c p).toNat grid.ctl) (pressureFactor grid.f p.pp)
  applyPpm c.baseVolume a

/-- The meter volume at reference conditions GSVm, from the grid at the meter (R124). -/
def meterVolume (kmilli np : Nat) (grid : GridReading) (pressure : Nat) : Nat :=
  applyPpm (roundNat (np * 1000000000) kmilli) (applyPpm grid.ctl (pressureFactor grid.f pressure))

/-- The pass record of a valid pass; none for an invalid one (R122 to R124). -/
def State.passRecord (s : State) (r : RunNo) (k : SetNo) (rho : Nat) (c : ProverConfig) (p : Pass) :
    Option PassRecord :=
  if !p.plausible then none
  else
    let temp := s.tempInUse r
    let pres := s.presInUse r
    let atProver := gridLookup (s.tableSet k) p.tp rho
    let atMeter := gridLookup (s.tableSet k) temp.value rho
    let gsvm := meterVolume ((s.run r).config.kmilli.getD 0) p.np atMeter pres.value.toNat
    let mf := roundNat (proverVolume c p atProver * 1000000) gsvm
    if gsvm = 0 ∨ !within 800000 1200000 mf then none
    else some
      { number := p.number, mf := mf, rate := (s.chainOf r).lastRate.getD 0,
        gridLimit := atProver.atLimit || atMeter.atLimit, inputsGood := temp.good && pres.good }

/-! ### The window (R121, R125) -/

/-- The frame follows on from the pass before it (R121). -/
def followsOn (previous : Option Nat) (number : Nat) : Bool :=
  match previous with
  | none => false
  | some m => number == (if m = 255 then 1 else m + 1)

/-- The window after a pass: emptied by a break of continuity or an invalid pass, and holding the last N
valid passes (R121, R122, R125). -/
def nextWindow (n count : Nat) (previous : Option Nat) (p : Pass) (record : Option PassRecord)
    (window : List PassRecord) : List PassRecord :=
  let kept := if count = 1 || followsOn previous p.number then window else []
  match record with
  | none => []
  | some x =>
    let joined := kept ++ [x]
    joined.drop (joined.length - n)

/-- The greatest MF_pass of a window. -/
def windowMax (w : List PassRecord) : Nat := (w.map (·.mf)).foldl max 0

/-- The least MF_pass of a window; every MF_pass is at most 1,200,000 (R122). -/
def windowMin (w : List PassRecord) : Nat := (w.map (·.mf)).foldl min 1200000

/-- The spread of a window in ppm (R125). -/
def spread (w : List PassRecord) : Nat := roundNat ((windowMax w - windowMin w) * 1000000) (windowMin w)

/-- The window is complete (R125). -/
def windowComplete (c : ProverConfig) (w : List PassRecord) : Bool :=
  decide (w.length = c.passes) && decide (spread w ≤ c.tolerance)

/-! ### Completion (R128, R129) -/

/-- The mean of a figure of a window, rounded (R128). -/
def windowMean (w : List PassRecord) (figure : PassRecord → Nat) : Nat :=
  roundNat (w.map figure).sum w.length

/-- The result of a complete window, its deviation still absent (R128). -/
def State.formResult (s : State) (r : RunNo) (k : SetNo) (w : List PassRecord) : ProveResult :=
  let mf := windowMean w (·.mf)
  let rate := windowMean w (·.rate)
  let curve := curveLookup ((s.tableSet k).curves.get r) rate
  { mf := mf, rate := rate, mfc := curve.mfc, missing := curve.missing, atLimit := curve.atLimit,
    shift := roundNat (mf * 1000000) curve.mfc, deviation := none }

/-- The deviation of a result from the factor in use (R129). -/
def ProveResult.deviationFrom (x : ProveResult) (shift : Nat) : Nat :=
  let mfe := clampMf (applyPpm x.mfc shift)
  roundNat (((x.mf : Int) - mfe).natAbs * 1000000) mfe

/-- The completion of an ACTIVE prove's window (R128, R129, R130; log 20). -/
def State.completeProve (s : State) (r : RunNo) (k : SetNo) (rho count : Nat) (c : ProverConfig)
    (w : List PassRecord) : Work :=
  let x := s.formResult r k w
  if !within 950000 1050000 x.shift then s.endProve r .rejectedLimit (some x)
  else
    let deviation := x.deviationFrom (s.shift r k)
    let x := { x with deviation := some deviation }
    if 0 < c.autoLimit ∧ deviation ≤ c.autoLimit then
      (s.applyShift r k x.shift).endProve r .applied (some x)
    else
      let p := s.prove r
      let waiting : ProveState := .pendingAccept k rho count x (s.expiryIn (c.acceptTimeout * 1000))
      let s := s.setProve r { p with state := waiting }
      (s.work.note (.proveState r)
        (.proveState .pendingAccept none none (some x.shift) (some deviation))).andThen State.tryHead

/-! ### PASS_FRAME (R16, R120 to R126) -/

/-- A pass handed to the ACTIVE prove of a run (R120 to R126). -/
def State.takePass (s : State) (r : RunNo) (c : ProverConfig) (previous : Option Nat) (p : Pass) : Work :=
  match (s.prove r).state with
  | .active k rho before window _ =>
    let count := before + 1
    let window := nextWindow c.passes count previous p (s.passRecord r k rho c p) window
    let active : ProveState := .active k rho count window (s.expiryIn (c.passTimeout * 1000))
    let s := s.setProve r { s.prove r with state := active }
    if windowComplete c window then s.completeProve r k rho count c window
    else if c.maxPasses ≤ count then s.endProve r .failedRepeatability none
    else s.work
  | .none | .queued | .pendingAccept .. => s.work

/-- A pass at the Prover Unit: stray where no prove is ACTIVE (R120). An ACTIVE prove finds the prover
configured (R117; log 24). -/
def State.handPass (s : State) (previous : Option Nat) (p : Pass) : Work :=
  match s.activeProve, s.prover.config with
  | some r, some c => s.takePass r c previous p
  | _, _ => (s.occur .strayPass 1).work

/-- The use of an accepted PASS frame: its pass number is recorded, and it is handed on with the one
before it, absent at a baseline (R6, R16). -/
def usePass (f : Frame) (slot : Nat) (e : MapEntry) (c : Acceptance) (s : State) : Work :=
  let previous := if c.baseline then none else e.record.lastPass
  let s := s.setSlot slot
    (some { e with record := { e.record with quality := .good, lastPass := some f.pass.number } })
  s.handPass previous f.pass

/-! ### CONFIGURE_PROVER (R114) -/

/-- The fields of a CONFIGURE_PROVER in the order of the table of section 6.1. The repeatability tolerance
and the auto-apply limit have the 4 bytes of a ppm factor (the model's choice, log 34). -/
def proverConfigOf (params : List Byte) : ProverConfig :=
  { baseVolume := natAt 0 8 params, alphaT := natAt 8 4 params, betaP := natAt 12 4 params,
    tref := intAt 16 4 params, passes := natAt 20 1 params, maxPasses := natAt 21 1 params,
    tolerance := natAt 22 4 params, autoLimit := natAt 26 4 params, passTimeout := natAt 30 4 params,
    acceptTimeout := natAt 34 4 params }

/-- Every field lies in its range (R114). -/
def ProverConfig.inRange (c : ProverConfig) : Bool :=
  within 100000000 100000000000 c.baseVolume && within 0 50000 c.alphaT && within 0 100 c.betaP &&
  withinInt (-5000) 15000 c.tref && within 3 10 c.passes && within c.passes 25 c.maxPasses &&
  within 50 5000 c.tolerance && within 0 10000 c.autoLimit && within 10 3600 c.passTimeout &&
  within 60 86400 c.acceptTimeout

/-- CONFIGURE_PROVER on a request that has its length (R114). -/
def configureProverRequest (params : List Byte) (s : State) : Answer :=
  let c := proverConfigOf params
  if !c.inRange then s.refuse .refusedRange
  else if s.proveInProgress then s.refuse .refusedState
  else ({ s with prover := { s.prover with config := some c } }).answerDone []

/-! ### REQUEST_PROVE and CANCEL_PROVE (R117, R135) -/

/-- The position of a run in the prove queue, the head as position 1. -/
def State.queuePosition (s : State) (r : RunNo) : Nat := s.prover.queue.idxOf r + 1

/-- The position in the queue, present while QUEUED (R117, R138). -/
def State.positionBytes (s : State) (r : RunNo) : List Byte :=
  optional 1 byte (if (s.prove r).state = .queued then some (s.queuePosition r) else none)

/-- What a REQUEST_PROVE led to: the record's state, with the position where QUEUED and the outcome where
the prove ended (R117; layout log 12). -/
def State.requestedBytes (s : State) (r : RunNo) : List Byte :=
  let p := (s.prove r).state
  byte p.stage.code ++ s.positionBytes r ++
  optional 1 (fun x : LastOutcome => byte x.outcome.code)
    (if p = .none then (s.prove r).lastOutcome else none)

/-- REQUEST_PROVE on a request that has its length (R117). -/
def requestProveRequest (params : List Byte) (s : State) : Answer :=
  match runAt 0 params with
  | none => s.refuse .refusedRange
  | some r =>
    if s.mgmt.device ≠ .measuring ∨ s.prover.config.isNone ∨ (s.run r).state = .closed then
      s.refuse .refusedState
    else if (s.prove r).state ≠ .none then s.refuse .refusedDuplicate
    else
      let s := s.setProveQueue (s.prover.queue ++ [r])
      let s := s.setProve r { s.prove r with state := .queued }
      let w := s.tryHead
      w.done (w.state.requestedBytes r)

/-- CANCEL_PROVE on a request that has its length (R135). -/
def cancelProveRequest (params : List Byte) (s : State) : Answer :=
  match runAt 0 params with
  | none => s.refuse .refusedRange
  | some r =>
    match (s.prove r).state with
    | .none => s.refuse .notFound
    | .pendingAccept .. => s.refuse .refusedState
    | .queued | .active .. =>
      (s.endProve r .abortedRequest none).done (byte ProveOutcome.abortedRequest.code)

/-! ### ACCEPT_PROVE and REJECT_PROVE (R131) -/

/-- The prove of a run that a request names, pending acceptance; otherwise the refusal (R131). -/
def State.onPending (s : State) (params : List Byte)
    (owner : RunNo → SetNo → ProveResult → Answer) : Answer :=
  match runAt 0 params with
  | none => s.refuse .refusedRange
  | some r =>
    match (s.prove r).state with
    | .pendingAccept k _ _ x _ => owner r k x
    | .none | .queued | .active .. => s.refuse .refusedState

/-- ACCEPT_PROVE on a request that has its length (R131). -/
def acceptProveRequest (params : List Byte) (s : State) : Answer :=
  s.onPending params fun r k x =>
    ((s.applyShift r k x.shift).endProve r .accepted none).done
      (byte ProveOutcome.accepted.code ++ field 4 x.shift)

/-- REJECT_PROVE on a request that has its length (R131). -/
def rejectProveRequest (params : List Byte) (s : State) : Answer :=
  s.onPending params fun r _ x =>
    (s.endProve r .rejected none).done (byte ProveOutcome.rejected.code ++ field 4 x.shift)

/-! ### CLEAR_SHIFT (R137) -/

/-- CLEAR_SHIFT on a request that has its length (R137). -/
def clearShiftRequest (params : List Byte) (s : State) : Answer :=
  match runAt 0 params, setAt 1 params with
  | some r, some k =>
    if (s.prove r).state.recordedSet.isSome then s.refuse .refusedInUse
    else (s.setShift r k 1000000).answerDone (field 4 (s.shift r k))
  | _, _ => s.refuse .refusedRange

/-! ### READ_PROVE (R138; layout log 12) -/

/-- The fields of the configuration. -/
def ProverConfig.bytes (c : ProverConfig) : List Byte :=
  field 8 c.baseVolume ++ field 4 c.alphaT ++ field 4 c.betaP ++ signedField 4 c.tref ++
  byte c.passes ++ byte c.maxPasses ++ field 4 c.tolerance ++ field 4 c.autoLimit ++
  field 4 c.passTimeout ++ field 4 c.acceptTimeout

/-- Selector 0: the configured mark with the configuration, the prover-busy flag with the ACTIVE run, and
the queue. -/
def State.proverReport (s : State) : List Byte :=
  optional 38 ProverConfig.bytes s.prover.config ++
  flag s.activeProve.isSome ++ optional 1 (fun r : RunNo => byte r.toNat) s.activeProve ++
  byte s.prover.queue.length ++ s.prover.queue.flatMap fun r => byte r.toNat

/-- A pass record. -/
def PassRecord.bytes (p : PassRecord) : List Byte :=
  byte p.number ++ field 4 p.mf ++ field 4 p.rate ++ flag p.gridLimit ++ flag p.inputsGood

/-- A result; the deviation has the 4 bytes of a ppm factor (log 34). -/
def ProveResult.bytes (x : ProveResult) : List Byte :=
  field 4 x.mf ++ field 4 x.rate ++ field 4 x.mfc ++ flag x.missing ++ flag x.atLimit ++
  field 4 x.shift ++ optional 4 (field 4) x.deviation

/-- A last outcome. -/
def LastOutcome.bytes (l : LastOutcome) : List Byte :=
  byte l.outcome.code ++ field 4 l.time ++ optional 1 (fun k : SetNo => byte k.toNat) l.set ++
  optional 1 byte l.count ++ optional 23 ProveResult.bytes l.result

/-- The milliseconds remaining to an expiry (R138). -/
def State.remainingBytes (s : State) (expiry : Nat) : List Byte := field 4 (expiry - s.now)

/-- The fields that R138 lists for an ACTIVE prove, each that may be absent behind a presence byte (R183). The
window is a list: a count byte and its records (layout log 12). -/
def State.activeFields (s : State) (set : Option SetNo) (rho count timer : Option Nat)
    (window : List PassRecord) : List Byte :=
  optional 1 (fun k : SetNo => byte k.toNat) set ++ optional 4 (field 4) rho ++ optional 1 byte count ++
  optional 4 s.remainingBytes timer ++ byte window.length ++ window.flatMap PassRecord.bytes

/-- The fields of an ACTIVE prove; in another state every one is absent and the window is empty (R138). -/
def State.activeBytes (s : State) : ProveState → List Byte
  | .active k rho count window timer => s.activeFields (some k) (some rho) (some count) (some timer) window
  | .none | .queued | .pendingAccept .. => s.activeFields none none none none []

/-- The fields of a prove pending acceptance; in another state both are absent (R138, R183). -/
def State.pendingBytes (s : State) : ProveState → List Byte
  | .pendingAccept _ _ _ x timer =>
    optional 23 ProveResult.bytes (some x) ++ optional 4 s.remainingBytes (some timer)
  | .none | .queued | .active .. =>
    optional 23 ProveResult.bytes none ++ optional 4 s.remainingBytes none

/-- Selector r: the fields of R138 in order, each that may be absent behind a presence byte (R183). -/
def State.proveReport (s : State) (r : RunNo) : List Byte :=
  let p := s.prove r
  byte p.state.stage.code ++ s.positionBytes r ++ s.activeBytes p.state ++ s.pendingBytes p.state ++
  optional 33 LastOutcome.bytes p.lastOutcome ++ (s.shifts.get r).toList.flatMap (field 4)

/-- READ_PROVE on a request that has its length (R138). -/
def readProveRequest (params : List Byte) (s : State) : Answer :=
  match natAt 0 1 params with
  | 0 => s.report s.proverReport
  | n =>
    match Num4.ofNat? n with
    | some r => s.report (s.proveReport r)
    | none => s.refuse .refusedRange

/-! ### The commands -/

/-- PASS_FRAME (R16, R120). -/
def execPassFrame (s : State) : Host.Outcome State Fault Refusal :=
  .next (s.dispatchSample kindPass usePass)

/-- PASS_TIMER_EXPIRY (R127). With no prove ACTIVE no pass timer runs (log 2). -/
def execPassTimerExpiry (s : State) : Host.Outcome State Fault Refusal :=
  .next <| s.whenRunning fun s =>
    match s.activeProve with
    | none => s
    | some r =>
      match (s.prove r).state with
      | .active _ _ _ _ e => ((s.passTo e).endProve r .abortedTimeout none).finish
      | .none | .queued | .pendingAccept .. => s

/-- ACCEPT_TIMER_EXPIRY (R132). A stopped timer does not expire (log 2). -/
def execAcceptTimerExpiry (r : RunNo) (s : State) : Host.Outcome State Fault Refusal :=
  .next <| s.whenRunning fun s =>
    match (s.prove r).state with
    | .pendingAccept _ _ _ _ e => ((s.passTo e).endProve r .expired none).finish
    | .none | .queued | .active .. => s

/-- CONFIGURE_PROVER (R114). -/
def execConfigureProver (s : State) : Host.Outcome State Fault Refusal :=
  .next (s.request 21 configureProverRequest)

/-- REQUEST_PROVE (R117). -/
def execRequestProve (s : State) : Host.Outcome State Fault Refusal :=
  .next (s.request 22 requestProveRequest)

/-- CANCEL_PROVE (R135). -/
def execCancelProve (s : State) : Host.Outcome State Fault Refusal :=
  .next (s.request 23 cancelProveRequest)

/-- ACCEPT_PROVE (R131). -/
def execAcceptProve (s : State) : Host.Outcome State Fault Refusal :=
  .next (s.request 24 acceptProveRequest)

/-- REJECT_PROVE (R131). -/
def execRejectProve (s : State) : Host.Outcome State Fault Refusal :=
  .next (s.request 25 rejectProveRequest)

/-- READ_PROVE (R138). -/
def execReadProve (s : State) : Host.Outcome State Fault Refusal := .next (s.request 26 readProveRequest)

/-- CLEAR_SHIFT (R137). -/
def execClearShift (s : State) : Host.Outcome State Fault Refusal :=
  .next (s.request 27 clearShiftRequest)

end Sys2Proof.Machine
end

