-- ==== Sys2Proof/Machine/Tickets.lean ====
section
/-!
DEFINITION. Reading and releasing tickets (sections 5.5 and 5.6): READ_TICKET and RELEASE_TICKET.
-/

namespace Sys2Proof.Machine

/-! ### The sections of a ticket (section 11.5) -/

/-- A ticket with k run sections has k + 2 sections (section 5.5). -/
def Ticket.sectionCount (t : Ticket) : Nat := t.sections.length + 2

/-- The runs present, with bit k − 1 standing for run k (section 11.5). -/
def Ticket.runBits (t : Ticket) : Nat := (t.sections.map fun x => 2 ^ (x.run.toNat - 1)).sum

/-- Section 0, the summary (R106, section 11.5). -/
def Ticket.summary (t : Ticket) : List Byte :=
  field 4 t.seq ++ field 4 t.nomination ++ byte t.set.toNat ++ field 4 t.signature.toNat ++
  byte t.cause.code ++ field 4 t.openTime ++ field 4 t.closeTime ++ flag t.timeValid ++
  targetBytes t.target ++ optional 8 (signedField 8) t.overrun ++
  signedField 8 t.pulses ++ signedField 8 t.iv ++ signedField 8 t.gsv ++ signedField 8 t.nsv ++
  signedField 8 t.mass ++ signedField 8 t.degraded ++
  byte t.sections.length ++ byte t.runBits ++ byte t.proves.length ++ byte t.further ++
  field 2 t.level3

/-- The averages of a run section. -/
def Averages.bytes (a : Averages) : List Byte :=
  signedField 4 a.t ++ field 4 a.p ++ field 4 a.mf ++ field 4 a.ctl ++ field 4 a.cpl ++ field 4 a.sw

/-- A run section (R107, section 11.5): one presence byte for the averages. -/
def RunSection.bytes (x : RunSection) : List Byte :=
  byte x.run.toNat ++ signedField 8 x.pulses ++ signedField 8 x.iv ++ signedField 8 x.gsv ++
  signedField 8 x.nsv ++ signedField 8 x.mass ++ signedField 8 x.degraded ++
  optional 24 Averages.bytes x.averages

/-- The proves list (R108, section 11.5). -/
def Ticket.provesList (t : Ticket) : List Byte :=
  byte t.proves.length ++
  (t.proves.flatMap fun p => byte p.run.toNat ++ field 4 p.shift ++ field 4 p.time) ++
  byte t.further

/-- A section by its index; none beyond the section count (R109, R110). -/
def Ticket.sectionBytes (t : Ticket) (i : Nat) : Option (List Byte) :=
  if i = 0 then some t.summary
  else
    match t.sections[i - 1]? with
    | some x => some x.bytes
    | none => if i = t.sections.length + 1 then some t.provesList else none

/-! ### READ_TICKET (R109, R110) -/

/-- The ticket with a batch sequence. -/
def State.ticketOf (s : State) (seq : Nat) : Option Ticket := s.tickets.find? fun t => t.seq == seq

/-- A section of a selected ticket, or NOT_FOUND (R109, R110). -/
def State.readSection (s : State) (ticket : Option Ticket) (i : Nat) : Answer :=
  match ticket with
  | none => s.refuse .notFound
  | some t =>
    match t.sectionBytes i with
    | none => s.refuse .notFound
    | some content =>
      s.report (field 4 t.seq ++ byte i ++ byte t.sectionCount ++ byte s.tickets.length ++ content)

/-- READ_TICKET on a request that has its length: OLDEST 0 or SEQUENCE 1 (R109). -/
def readTicketRequest (params : List Byte) (s : State) : Answer :=
  match natAt 0 1 params with
  | 0 => s.readSection s.tickets.head? (natAt 5 1 params)
  | 1 => s.readSection (s.ticketOf (natAt 1 4 params)) (natAt 5 1 params)
  | _ => s.refuse .refusedRange

/-! ### RELEASE_TICKET (R111, R112) -/

/-- The payload of an accepted RELEASE_TICKET: the count, and where a close completed at it, the batch
closed, the batch opened or none, and the device state (R111, R112). -/
def CloseStep.releasePayload (c : CloseStep) : List Byte :=
  let s := c.work.state
  byte s.tickets.length ++
  match c.closed with
  | some n => field 4 n ++ optional 4 (field 4) c.opened ++ byte s.mgmt.device.code
  | none => []

/-- RELEASE_TICKET on a request that has its length (R111, R112). -/
def releaseTicketRequest (params : List Byte) (s : State) : Answer :=
  let seq := natAt 0 4 params
  match s.tickets with
  | [] => s.refuse .notFound
  | t :: rest =>
    if t.seq = seq then
      let step := ({ s with tickets := rest }).retestClose s.standing
      step.work.done step.releasePayload
    else if (s.ticketOf seq).isSome then s.refuse .refusedOrder
    else s.refuse .notFound

/-! ### The commands -/

/-- READ_TICKET (R109). -/
def execReadTicket (s : State) : Host.Outcome State Fault Refusal := .next (s.request 17 readTicketRequest)

/-- RELEASE_TICKET (R111). -/
def execReleaseTicket (s : State) : Host.Outcome State Fault Refusal :=
  .next (s.request 18 releaseTicketRequest)

end Sys2Proof.Machine
end

