-- ==== Sys2Proof/Machine/Dispatch.lean ====
section
/-!
DEFINITION. The meaning of every command: one arm for each row of spec/opcode_table.json.
-/

namespace Sys2Proof.Machine

/-- What a command does to the state, the queue of waiting commands aside. -/
def exec (i : Instr) (s : State) : Host.Outcome State Fault Refusal :=
  match i with
  | .powerOnReset => Sys2Proof.Machine.execPowerOnReset s
  | .resetEnd nodeStraps rateStraps => Sys2Proof.Machine.execResetEnd nodeStraps rateStraps s
  | .receptionStart => Sys2Proof.Machine.execReceptionStart s
  | .frameEnd bytes => Sys2Proof.Machine.execFrameEnd bytes s
  | .forwardDispatch => Sys2Proof.Machine.execForwardDispatch s
  | .pulseFrame => Sys2Proof.Machine.execPulseFrame s
  | .valueFrame => Sys2Proof.Machine.execValueFrame s
  | .passFrame => Sys2Proof.Machine.execPassFrame s
  | .triggerFrame => Sys2Proof.Machine.execTriggerFrame s
  | .invalidOwnFrame => Sys2Proof.Machine.execInvalidOwnFrame s
  | .staleTimerExpiry slot => Sys2Proof.Machine.execStaleTimerExpiry slot s
  | .holdTimerExpiry slot => Sys2Proof.Machine.execHoldTimerExpiry slot s
  | .closeTimerExpiry run => Sys2Proof.Machine.execCloseTimerExpiry run s
  | .interfaceTimerExpiry => Sys2Proof.Machine.execInterfaceTimerExpiry s
  | .passTimerExpiry => Sys2Proof.Machine.execPassTimerExpiry s
  | .acceptTimerExpiry run => Sys2Proof.Machine.execAcceptTimerExpiry run s
  | .reportPeriodExpiry => Sys2Proof.Machine.execReportPeriodExpiry s
  | .idleIntervalReached => Sys2Proof.Machine.execIdleIntervalReached s
  | .stationTimeAdvance => Sys2Proof.Machine.execStationTimeAdvance s
  | .downstreamReadyChange level => Sys2Proof.Machine.execDownstreamReadyChange level s
  | .transmissionStart => Sys2Proof.Machine.execTransmissionStart s
  | .transmissionComplete => Sys2Proof.Machine.execTransmissionComplete s
  | .unknownRequest => Sys2Proof.Machine.execUnknownRequest s
  | .mapPoint => Sys2Proof.Machine.execMapPoint s
  | .unmapPoint => Sys2Proof.Machine.execUnmapPoint s
  | .configureRun => Sys2Proof.Machine.execConfigureRun s
  | .configureHeader => Sys2Proof.Machine.execConfigureHeader s
  | .setRunServiceOpen => Sys2Proof.Machine.execSetRunServiceOpen s
  | .setRunServiceClose => Sys2Proof.Machine.execSetRunServiceClose s
  | .readLive => Sys2Proof.Machine.execReadLive s
  | .beginLoad => Sys2Proof.Machine.execBeginLoad s
  | .loadSegment => Sys2Proof.Machine.execLoadSegment s
  | .commitSet => Sys2Proof.Machine.execCommitSet s
  | .discardSet => Sys2Proof.Machine.execDiscardSet s
  | .readSetInfo => Sys2Proof.Machine.execReadSetInfo s
  | .queueBatch => Sys2Proof.Machine.execQueueBatch s
  | .cancelBatch => Sys2Proof.Machine.execCancelBatch s
  | .closeBatch => Sys2Proof.Machine.execCloseBatch s
  | .amendTarget => Sys2Proof.Machine.execAmendTarget s
  | .readSchedule => Sys2Proof.Machine.execReadSchedule s
  | .readTicket => Sys2Proof.Machine.execReadTicket s
  | .releaseTicket => Sys2Proof.Machine.execReleaseTicket s
  | .readTotals => Sys2Proof.Machine.execReadTotals s
  | .seedTotals => Sys2Proof.Machine.execSeedTotals s
  | .configureProver => Sys2Proof.Machine.execConfigureProver s
  | .requestProve => Sys2Proof.Machine.execRequestProve s
  | .cancelProve => Sys2Proof.Machine.execCancelProve s
  | .acceptProve => Sys2Proof.Machine.execAcceptProve s
  | .rejectProve => Sys2Proof.Machine.execRejectProve s
  | .readProve => Sys2Proof.Machine.execReadProve s
  | .clearShift => Sys2Proof.Machine.execClearShift s
  | .ackConditions => Sys2Proof.Machine.execAckConditions s
  | .setLevels => Sys2Proof.Machine.execSetLevels s
  | .readConditions => Sys2Proof.Machine.execReadConditions s
  | .setInboundPolicy => Sys2Proof.Machine.execSetInboundPolicy s
  | .setSlotPlan => Sys2Proof.Machine.execSetSlotPlan s
  | .setReporting => Sys2Proof.Machine.execSetReporting s
  | .commission => Sys2Proof.Machine.execCommission s
  | .decommission => Sys2Proof.Machine.execDecommission s
  | .restart => Sys2Proof.Machine.execRestart s
  | .setTime => Sys2Proof.Machine.execSetTime s
  | .readStatus => Sys2Proof.Machine.execReadStatus s

end Sys2Proof.Machine
end

