-- ==== Sys2Proof/Safety.lean ====
section
/-!
DEFINITION. The terms in which the statements speak: the invariants of a safe run, what stands at the head
of the inbound FIFO, and the request kind of each request row.
-/

namespace Sys2Proof.Machine

/-! ### Invariants -/

/-- The point map has its fifteen slots and the condition table its 121 entries (R1, R140). -/
structure State.TablesWhole (s : State) : Prop where
  slots : s.points.map.length = 15
  entries : s.cond.entries.length = 121

/-- A snapshot slot is pending (R171). -/
def State.snapPending (s : State) : SnapId → Bool
  | .run r => (s.reports.runSlots.get r).pending
  | .header => s.reports.headerSlot.pending

/-- Every bounded collection within its bound: inbound FIFO, Forward Queue and response queue (R155, R162,
R164), Ticket Store and schedule (R104, R77), the proves list of a batch and of a ticket (R78, R108), the
prove queue, which lists the QUEUED runs once each (R116), the pass window (R115, R125), the result order,
which lists the pending slots once each (R174), and the slot plan with its pointer (R165). -/
structure State.Capacities (s : State) : Prop extends State.TablesWhole s where
  fifo : s.inbound.fifo.length ≤ 16
  forward : s.forward.length ≤ 16
  responses : s.responses.length ≤ 8
  tickets : s.tickets.length ≤ 16
  schedule : s.batch.schedule.length ≤ 8
  proves : ∀ b ∈ s.batch.schedule, b.proves.length ≤ 8
  ticketProves : ∀ x ∈ s.tickets, x.proves.length ≤ 8
  proveOnce : s.prover.queue.Nodup
  proveQueued : ∀ r, r ∈ s.prover.queue ↔ (s.prove r).state = .queued
  window : ∀ r k rho count w timer, (s.prove r).state = .active k rho count w timer →
    ∃ c, s.prover.config = some c ∧ w.length ≤ c.passes
  orderOnce : s.reports.order.Nodup
  orderPending : ∀ id, id ∈ s.reports.order ↔ s.snapPending id = true
  plan : 1 ≤ s.outbound.plan.length ∧ s.outbound.plan.length ≤ 8
  pointer : 1 ≤ s.outbound.pointer ∧ s.outbound.pointer ≤ s.outbound.plan.length

/-- Every residue lies below its divisor, and a configured K-factor is at least 1,000 (R17, R62). -/
structure State.ResiduesBelow (s : State) : Prop where
  kmilli : ∀ r k, (s.run r).config.kmilli = some k → 1000 ≤ k
  iv : ∀ r k, (s.run r).config.kmilli = some k → (s.chainOf r).ivRes < k
  gsv : ∀ r, (s.chainOf r).gsvRes < 1000000
  nsv : ∀ r, (s.chainOf r).nsvRes < 1000000
  mass : ∀ r, (s.chainOf r).massRes < 100000

/-- The prove queue holds the QUEUED runs, each once; one prove at most is ACTIVE; and a queue that is not
empty stands behind an ACTIVE prove (R115, R116). -/
structure State.ProverOrdered (s : State) : Prop where
  once : s.prover.queue.Nodup
  queued : ∀ r, r ∈ s.prover.queue ↔ (s.prove r).state = .queued
  single : ∀ r q, (s.prove r).state.isActive = true → (s.prove q).state.isActive = true → r = q
  behind : s.prover.queue ≠ [] → ∃ r, (s.prove r).state.isActive = true

/-- While the device is UNCOMMISSIONED every run's condition flags stand clear (R71). -/
def State.FlagsQuiet (s : State) : Prop :=
  s.mgmt.device = .uncommissioned → ∀ r, (s.chainOf r).flags = .clear

/-- An entry is active: its condition stands, acknowledged or not (R140, R142). -/
def CondEntry.active (e : CondEntry) : Bool := e.state == .activeUnack || e.state == .activeAck

/-- Each of a run's six latched conditions is active exactly while its flag is set (R70). -/
structure State.ConditionsFollow (s : State) : Prop extends State.TablesWhole s where
  mismatch : ∀ r, (s.entry (90 + r.toNat)).active = (s.chainOf r).flags.pulseMismatch
  aboveMax : ∀ r, (s.entry (94 + r.toNat)).active = (s.chainOf r).flags.aboveMax
  curveLimit : ∀ r, (s.entry (98 + r.toNat)).active = (s.chainOf r).flags.curveLimit
  curveMissing : ∀ r, (s.entry (102 + r.toNat)).active = (s.chainOf r).flags.curveMissing
  gridLimit : ∀ r, (s.entry (106 + r.toNat)).active = (s.chainOf r).flags.gridLimit
  outOfService : ∀ r, (s.entry (110 + r.toNat)).active = (s.chainOf r).flags.flowingClosed

/-! ### What an event does to the conditions of a slot, and to the prove queue -/

/-- Where the state of a latched condition goes as what it stands for begins or ends (R14, R142). -/
def latchedState (before after : Bool) (c : CondState) : CondState :=
  if after && !before then .activeUnack else if before && !after then c.afterReturn else c

/-- From one state to the next, VALUE_HELD, VALUE_SUBSTITUTED and VALUE_CLAMPED of a slot follow its record
(R14; entries 46 … 90 of R140). -/
structure State.LatchedFollow (s t : State) (slot : Nat) (before after : LiveRecord) : Prop where
  held : (t.entry (45 + slot)).state =
    latchedState (before.quality == .held) (after.quality == .held) (s.entry (45 + slot)).state
  substituted : (t.entry (60 + slot)).state =
    latchedState (before.quality == .substitute) (after.quality == .substitute)
      (s.entry (60 + slot)).state
  clamped : (t.entry (75 + slot)).state =
    latchedState before.clamped after.clamped (s.entry (75 + slot)).state

/-- The prover, freed at a count of the Timebase, is handed on (R116, R118): with nobody waiting nothing more
happens; the head of the queue leaves it, and its prove becomes ACTIVE on the active batch where its run is
METERING, and a lone head whose run is not ends NOT_FLOWING. -/
structure State.HandedOn (s t : State) (now : Nat) : Prop where
  nobody : s.prover.queue = [] → t.prover.queue = []
  next : ∀ q more b c, s.prover.queue = q :: more → (s.run q).state = .metering →
    s.activeBatch = some b → s.prover.config = some c →
    t.prover.queue = more ∧
      (t.prove q).state = .active b.set b.rho 0 [] (now + c.passTimeout * 1000)
  skipped : ∀ q, s.prover.queue = [q] → (s.run q).state ≠ .metering →
    t.prover.queue = [] ∧
      t.prove q = ⟨.none, some ⟨.notFlowing, s.mgmt.stationTime, none, none, none⟩⟩

/-! ### What a selection finds, and what the CONDITION source holds -/

/-- The slot of the plan some places past the pointer, wrapping (R167). -/
def State.slotPast (s : State) (places : Nat) : Option PlanSlot :=
  s.outbound.plan[(s.outbound.pointer - 1 + places) % s.outbound.plan.length]?

/-- The pointer after a frame from the slot some places past it: the slot after that one (R167). -/
def State.pointerPast (s : State) (places : Nat) : Nat :=
  (s.outbound.pointer + places) % s.outbound.plan.length + 1

/-- A selection takes its frame from a source, some places past the pointer: the slots before that one
supply nothing (R167). -/
structure State.Finds (s : State) (places : Nat) (x : Source) : Prop where
  pointer : 1 ≤ s.outbound.pointer ∧ s.outbound.pointer ≤ s.outbound.plan.length
  once : places < s.outbound.plan.length
  passed : ∀ n < places, ∀ slot, s.slotPast n = some slot → s.slotSupply slot = none
  found : ∃ slot, s.slotPast places = some slot ∧ s.slotSupply slot = some x

/-- The report-pending flag of an entry or a notice (R146, R149). -/
def State.pends (s : State) : Reported → Bool
  | .entry n => decide (1 ≤ n ∧ n ≤ s.cond.entries.length) && (s.entry n).pending
  | .notice id => (s.notice id).pending

/-- The level at which an entry or a notice is ordered (R146). -/
def State.reportLevel (s : State) : Reported → Nat
  | .entry n => s.levelOf (kindOfEntry n)
  | .notice _ => s.cond.levels.notice

/-- The sequence by which an entry or a notice is ordered, 0 in one that has none (R146). -/
def State.reportSeq (s : State) : Reported → Nat
  | .entry n => ((s.entry n).raised.map (·.seq)).getD 0
  | .notice id => (s.notice id).seq.getD 0

/-! ### What stands at the head of the inbound FIFO -/

/-- Out of reset, the head is a request of a kind to the own node, with its parameters, and the response
queue has room (R158). -/
abbrev State.Requests (s : State) (kind : Nat) (f : Frame) (p : List Byte) : Prop :=
  s.held = false ∧ s.inbound.fifo.head? = some f ∧ s.isOwn f = true ∧ f.kind = kindRequest ∧
    f.payload.drop 1 = BitVec.ofNat 8 kind :: p ∧ s.responses.length < 8

/-- Out of reset, the head is an own-node sample frame of a kind and the right length, for a mapped point
whose role takes the kind (R4, R159). -/
abbrev State.Samples (s : State) (kind : Byte) (f : Frame) (slot : Nat) (e : MapEntry) : Prop :=
  s.held = false ∧ s.inbound.fifo.head? = some f ∧ s.isOwn f = true ∧ f.kind = kind ∧
    f.rightLength = true ∧ s.sampleEntry f = some (slot, e)

/-- The state after a request that leaves everything else as it was: the request off the head and one
response behind the others (R158, R176). -/
def State.answered (s : State) (f : Frame) (result : Result) (payload : List Byte) : State :=
  s.popHead.queueResponse f result payload

/-! ### Request rows -/

/-- The request kind of a request row (R183); none for the other rows. SET_RUN_SERVICE is one kind with
two rows. -/
def requestKindOf : Instr → Option Nat
  | .mapPoint => some 1 | .unmapPoint => some 2 | .configureRun => some 3 | .configureHeader => some 4
  | .setRunServiceOpen => some 5 | .setRunServiceClose => some 5 | .readLive => some 6
  | .beginLoad => some 7 | .loadSegment => some 8 | .commitSet => some 9 | .discardSet => some 10
  | .readSetInfo => some 11 | .queueBatch => some 12 | .cancelBatch => some 13 | .closeBatch => some 14
  | .amendTarget => some 15 | .readSchedule => some 16 | .readTicket => some 17
  | .releaseTicket => some 18 | .readTotals => some 19 | .seedTotals => some 20
  | .configureProver => some 21 | .requestProve => some 22 | .cancelProve => some 23
  | .acceptProve => some 24 | .rejectProve => some 25 | .readProve => some 26 | .clearShift => some 27
  | .ackConditions => some 28 | .setLevels => some 29 | .readConditions => some 30
  | .setInboundPolicy => some 31 | .setSlotPlan => some 32 | .setReporting => some 33
  | .commission => some 34 | .decommission => some 35 | .restart => some 36 | .setTime => some 37
  | .readStatus => some 38
  | .powerOnReset => none | .resetEnd _ _ => none | .receptionStart => none | .frameEnd _ => none
  | .forwardDispatch => none | .pulseFrame => none | .valueFrame => none | .passFrame => none
  | .triggerFrame => none | .invalidOwnFrame => none | .staleTimerExpiry _ => none
  | .holdTimerExpiry _ => none | .closeTimerExpiry _ => none | .interfaceTimerExpiry => none
  | .passTimerExpiry => none | .acceptTimerExpiry _ => none | .reportPeriodExpiry => none
  | .idleIntervalReached => none | .stationTimeAdvance => none | .downstreamReadyChange _ => none
  | .transmissionStart => none | .transmissionComplete => none | .unknownRequest => none

/-- A row takes a request of its kind with given parameters: the two rows of SET_RUN_SERVICE leave a
well-formed request of the other direction to each other (log 17). -/
def rowTakes (c : Instr) (p : List Byte) : Bool :=
  match c with
  | .setRunServiceOpen => decide (p.length ≠ 2) || natAt 0 1 p != 1
  | .setRunServiceClose => decide (p.length ≠ 2) || natAt 0 1 p != 0
  | _ => true

end Sys2Proof.Machine
end

