-- ==== Sys2Proof/Certificates/Slice0/Obligations.lean ====
section
/-!
DEFINITION. The statements about the model, for the provers. Where a statement says what a command does, its
hypotheses are on the state and the operands alone and its conclusion is the next state.
-/

open Sys2Proof Sys2Proof.Machine

/-! ## The machine as a whole -/

/-- A step takes the command at the front of the queue and runs it on the state with the queue's rest.
An empty queue lets one millisecond pass, and nothing else; a part held in reset has no Timebase
(the model's choice, log 3). -/
def Obligations.StepTakesTheFrontOrIdles : Prop :=
  (∀ (c : Instr) (rest : List Instr) (s : State), s.pending = c :: rest →
    step s = exec c { s with pending := rest }) ∧
  (∀ s : State, s.pending = [] →
    step s = .next (if s.held then s else { s with now := s.now + 1 }))

/-- What the chapters give for a power-on reset, block by block: the point map, the header configuration and
the run presets (section 1.6), the chain, the tables, the batches, the totalizers and tickets, the prover
and its shifts, the conditions and notices, the ports and queues, the snapshot slots and the device. -/
def Obligations.PowerOnValues : Prop :=
  (∀ slot, State.reset.slotEntry slot = none) ∧
  State.reset.points.header =
    { densLow := 50000, densHigh := 120000, waterLow := 0, waterHigh := 1000000,
      waterSub := 0, waterLimit := 1000000, stale := 5000, hold := 60000, persistence := 60 } ∧
  (∀ r, (State.reset.run r).config =
    { kmilli := none, dual := false, tolerance := 0, cutoff := 0, maxRate := 99999999,
      tempLow := -5000, tempHigh := 15000, tempSub := 1500, presLow := 0, presHigh := 200000,
      presSub := 0, stale := 5000, hold := 60000 }) ∧
  (∀ r, (State.reset.run r).state = .closed ∧ (State.reset.run r).configured = false ∧
    (State.reset.run r).closePending = false ∧ (State.reset.run r).closeTimer = none ∧
    (State.reset.run r).unbooked = 0 ∧ (State.reset.run r).cutoffPulses = 0) ∧
  (∀ k, State.reset.tableSet k = ⟨.empty, none, none, none, [], .const .notLoaded, none⟩) ∧
  (∀ r, State.reset.chainOf r = ⟨0, 0, 0, 0, none, none, false, .clear⟩) ∧
  (State.reset.batch.schedule = [] ∧ State.reset.batch.counter = 0 ∧
    State.reset.batch.detector = .inside) ∧
  (∀ r, State.reset.totalsOf r = ⟨0, 0, 0, 0⟩) ∧ State.reset.tickets = [] ∧
  (∀ r k, State.reset.shift r k = 1000000) ∧
  (State.reset.prover.config = none ∧ State.reset.prover.queue = [] ∧
    ∀ r, State.reset.prove r = ⟨.none, none⟩) ∧
  (∀ n, State.reset.entry n = ⟨.normal, 0, none, false⟩) ∧
  State.reset.cond.levels = ⟨1, 2, 3, 2, 2, 3, 1, 1⟩ ∧ State.reset.cond.raiseSeq = 0 ∧
  (∀ id, State.reset.notice id = ⟨none, none, false, none, 0⟩) ∧
  (State.reset.inbound.fifo = [] ∧ State.reset.inbound.reception = .none ∧
    State.reset.inbound.policy = .hold ∧ State.reset.inboundReady = true) ∧
  State.reset.forward = [] ∧ State.reset.responses = [] ∧
  State.reset.outbound.plan = [⟨.forward, .result⟩, ⟨.response, .condition⟩, ⟨.forward, .response⟩,
    ⟨.condition, .result⟩] ∧
  State.reset.outbound.pointer = 1 ∧ State.reset.outbound.idleInterval = 100 ∧
  State.reset.outbound.previous = .other ∧ State.reset.outbound.sending = none ∧
  State.reset.reports.period = 0 ∧ State.reset.reports.timer = none ∧ State.reset.reports.order = [] ∧
  (∀ r, State.reset.reports.runSlots.get r = ⟨none, false, 0, none, false, false, false, false, 0⟩) ∧
  State.reset.reports.headerSlot = ⟨none, false, 0, none, false, false, false, false, 0⟩ ∧
  State.reset.mgmt.device = .uncommissioned ∧ State.reset.mgmt.stationTime = 0 ∧
  State.reset.mgmt.timeValid = false

/-- POWER_ON_RESET from any state; the waiting commands and the level of the downstream ready pin are the
outside's (the model's choice, log 7).
RESET_END reads the straps and starts the Timebase's users; a part that runs has no reset to end. -/
def Obligations.ResetAndItsEnd : Prop :=
  (∀ s : State, exec .powerOnReset s =
    .next { State.reset with
      outbound := { State.reset.outbound with downstreamReady := s.outbound.downstreamReady }
      pending := s.pending }) ∧
  (∀ (node : BitVec 8) (rate : BitVec 2) (s : State),
    (s.held = true → exec (.resetEnd node rate) s =
      .next { s with
        held := false
        mgmt := { s.mgmt with
          nodeAddress := node.toNat, linkRate := rate.toNat, secondStart := s.now }
        outbound := { s.outbound with idleStart := s.now } }) ∧
    (s.held = false → exec (.resetEnd node rate) s = .next s))

/-- Between POWER_ON_RESET and RESET_END no other command has an effect; the downstream ready pin alone
follows its driver (the model's reading of R190, log 5). -/
def Obligations.HeldInResetNothingHappens : Prop :=
  ∀ (c : Instr) (s : State), s.held = true → c ≠ .powerOnReset → (∀ n r, c ≠ .resetEnd n r) →
    (∀ l, c ≠ .downstreamReadyChange l) → exec c s = .next s

/-- No command changes the queue of the commands that wait. The queue is the model's own field, and that a
POWER_ON_RESET leaves it is the model's choice (log 7). -/
def Obligations.WaitingCommandsAreKept : Prop :=
  ∀ (c : Instr) (s t : State), exec c s = .next t → t.pending = s.pending

/-! ## Invariants of every step -/

/-- Every step keeps within its bound each of these: the inbound FIFO, the Forward Queue, the response queue,
the Ticket Store, the schedule, the proves list of a batch and of a ticket, the prove queue of four runs, the
pass window of N passes, the result order of five slots and the slot plan; and it keeps the point map at
fifteen slots and the condition table at 121 entries. -/
def Obligations.CapacitiesKept : Prop :=
  ∀ s t : State, s.Capacities → step s = .next t →
    t.Capacities ∧ t.prover.queue.length ≤ 4 ∧ t.reports.order.length ≤ 5

/-- Every step keeps every residue below its divisor. -/
def Obligations.ResiduesStayBelow : Prop :=
  ∀ s t : State, s.ResiduesBelow → step s = .next t → t.ResiduesBelow

/-- Every step keeps the prove queue in order: its runs are the QUEUED ones, one prove at most is ACTIVE,
and no run waits for a free prover. -/
def Obligations.ProverStaysOrdered : Prop :=
  ∀ s t : State, s.ProverOrdered → step s = .next t → t.ProverOrdered

/-- Every step keeps the flags of an UNCOMMISSIONED part clear. -/
def Obligations.FlagsStayQuiet : Prop :=
  ∀ s t : State, s.FlagsQuiet → step s = .next t → t.FlagsQuiet

/-- Every step keeps a run's latched conditions active exactly while their flags are set. -/
def Obligations.ConditionsFollowFlags : Prop :=
  ∀ s t : State, s.ConditionsFollow → step s = .next t → t.ConditionsFollow

/-- The invariants hold after a power-on reset. -/
def Obligations.InvariantsHoldAtReset : Prop :=
  State.reset.Capacities ∧ State.reset.ResiduesBelow ∧ State.reset.ProverOrdered ∧
    State.reset.FlagsQuiet ∧ State.reset.ConditionsFollow

/-! ## What only some commands change -/

/-- A totalizer changes at a pulse frame, at a SEED_TOTALS and at a power-on reset alone.
A shift entry is written by proving, by CLEAR_SHIFT and by the loads and discards that reset it.
A table set changes at the four loading requests and at a power-on reset alone.
Time-valid is cleared by a power-on reset alone, and the strap values read at the end of a reset are held
until the next power-on reset. -/
def Obligations.FiguresTablesAndStrapsHaveTheirWriters : Prop :=
  (∀ (c : Instr) (s t : State), c ≠ .pulseFrame → c ≠ .seedTotals → c ≠ .powerOnReset →
    exec c s = .next t → t.totals = s.totals) ∧
  (∀ (c : Instr) (s t : State), c ≠ .passFrame → c ≠ .acceptProve → c ≠ .clearShift →
    c ≠ .beginLoad → c ≠ .discardSet → c ≠ .powerOnReset →
    exec c s = .next t → t.shifts = s.shifts) ∧
  (∀ (c : Instr) (s t : State), c ≠ .beginLoad → c ≠ .loadSegment → c ≠ .commitSet →
    c ≠ .discardSet → c ≠ .powerOnReset → exec c s = .next t → t.tables = s.tables) ∧
  (∀ (c : Instr) (s t : State), c ≠ .powerOnReset → exec c s = .next t →
    s.mgmt.timeValid = true → t.mgmt.timeValid = true) ∧
  (∀ (c : Instr) (s t : State), s.held = false → c ≠ .powerOnReset → exec c s = .next t →
    t.mgmt.nodeAddress = s.mgmt.nodeAddress ∧ t.mgmt.linkRate = s.mgmt.linkRate ∧ t.held = false)

/-- A ticket leaves the store at a RELEASE_TICKET and at a power-on reset alone: every other command keeps
each ticket as it stands and only appends.
The batch sequence counter stays or goes on by one, 4,294,967,295 being followed by 1; a power-on reset
zeroes it. -/
def Obligations.TicketsAndBatchCounter : Prop :=
  (∀ (c : Instr) (s t : State), c ≠ .releaseTicket → c ≠ .powerOnReset → exec c s = .next t →
    ∃ more, t.tickets = s.tickets ++ more) ∧
  (∀ (c : Instr) (s t : State), c ≠ .powerOnReset → exec c s = .next t →
    t.batch.counter = s.batch.counter ∨
    t.batch.counter = (if s.batch.counter = 4294967295 then 1 else s.batch.counter + 1))

/-! ## Frames on the inbound link -/

/-- The bytes of a frame read as that frame, and only they do: the check of a frame end accepts exactly
the frames that were formed with a payload of at most 248 bytes and their own CRC. -/
def Obligations.FrameRoundTrip : Prop :=
  (∀ (dest src kind : Byte) (payload : List Byte), payload.length ≤ 248 →
    parseFrame (makeFrame dest src kind payload).wire = some (makeFrame dest src kind payload)) ∧
  (∀ (bytes : List Byte) (f : Frame), parseFrame bytes = some f →
    f.payload.length ≤ 248 ∧ f = makeFrame f.dest f.src f.kind f.payload ∧ f.wire = bytes)

/-- RECEPTION_START gives the frame a claim where the ready line stands asserted under HOLD, and only
there. -/
def Obligations.ReceptionStartClaims : Prop :=
  ∀ s : State, s.held = false → s.inbound.reception = .none →
    (s.inbound.policy = .hold → s.inbound.fifo.length < 16 →
      exec .receptionStart s = .next (s.setReception .claimed)) ∧
    (s.inbound.policy = .hold → 16 ≤ s.inbound.fifo.length →
      exec .receptionStart s = .next (s.setReception .unclaimed)) ∧
    (s.inbound.policy ≠ .hold → exec .receptionStart s = .next (s.setReception .unclaimed))

/-- FRAME_END: a frame that fails its check is discarded with CHECK_ERROR; a good one joins the tail while
fewer than 16 are held; without room it is dropped, or under DROP_OLDEST_SAMPLE takes the place of the
oldest sample. -/
def Obligations.FrameEndArrivals : Prop :=
  ∀ (s : State) (bytes : List Byte), s.held = false → s.inbound.reception ≠ .none →
    (parseFrame bytes = none →
      exec (.frameEnd bytes) s = .next ((s.setReception .none).occur .checkError 1)) ∧
    (∀ f, parseFrame bytes = some f → s.inbound.fifo.length < 16 →
      exec (.frameEnd bytes) s =
        .next { s with inbound :=
          { s.inbound with reception := .none, fifo := s.inbound.fifo ++ [f] } }) ∧
    (∀ f, parseFrame bytes = some f → s.inbound.fifo.length = 16 →
      s.inbound.policy ≠ .dropOldestSample ∨ s.inbound.fifo.all (fun x => !x.isSample) = true →
      exec (.frameEnd bytes) s = .next ((s.setReception .none).occur .inboundDrop 1)) ∧
    (∀ f x older younger, parseFrame bytes = some f → s.inbound.fifo.length = 16 →
      s.inbound.policy = .dropOldestSample → s.inbound.fifo = older ++ x :: younger →
      x.isSample = true → older.all (fun y => !y.isSample) = true →
      exec (.frameEnd bytes) s =
        .next (({ s with inbound :=
          { s.inbound with reception := .none, fifo := older ++ younger ++ [f] } }).occur
            .inboundDrop 1))

/-- FORWARD_DISPATCH: a head for another node, and a broadcast that the part does not take, move unchanged
to the tail of the Forward Queue; the head waits while that queue holds 16 frames.
TRIGGER_FRAME: an own-node TRIGGER of the right length triggers every EXTERNAL slot and leaves the
FIFO; with no slot enabled it has no other effect. -/
def Obligations.HeadsThatAreNoSamples : Prop :=
  (∀ (s : State) (f : Frame) (rest : List Frame), s.held = false → s.inbound.fifo = f :: rest →
    s.isOwn f = false →
    f.dest ≠ broadcast ∨ f.rightLength = false ∨ (f.kind ≠ kindTrigger ∧ s.sampleEntry f = none) →
    (s.forward.length < 16 →
      exec .forwardDispatch s =
        .next { s with inbound := { s.inbound with fifo := rest }, forward := s.forward ++ [f] }) ∧
    (16 ≤ s.forward.length → exec .forwardDispatch s = .next s)) ∧
  (∀ (s : State) (f : Frame) (rest : List Frame), s.held = false → s.inbound.fifo = f :: rest →
    s.isOwn f = true → f.kind = kindTrigger → f.payload = [] →
    exec .triggerFrame s = .next
      (SnapId.all.foldl (fun s id => if s.snapEnables .external id then s.trigger id else s)
        { s with inbound := { s.inbound with fifo := rest } }) ∧
    ((∀ id, s.snapEnables .external id = false) →
      exec .triggerFrame s = .next { s with inbound := { s.inbound with fifo := rest } }))

/-- INVALID_OWN_FRAME: an own-node frame of a kind the part does not consume, of the wrong length, or a
REQUEST too short to answer, is discarded with CHECK_ERROR.
An own-node sample frame whose point id is unmapped, or whose role does not take its kind, is discarded
with UNMAPPED_POINT.
A duplicate or stale frame leaves the FIFO and changes nothing else. -/
def Obligations.SamplesThatReachNoRecord : Prop :=
  (∀ (s : State) (f : Frame) (rest : List Frame), s.held = false → s.inbound.fifo = f :: rest →
    s.isOwn f = true →
    (f.kind ∈ [kindPulse, kindValue, kindPass, kindTrigger] ∧ f.rightLength = false) ∨
      (f.kind = kindRequest ∧ f.payload.length < 2) ∨
      f.kind ∉ [kindPulse, kindValue, kindPass, kindTrigger, kindRequest] →
    exec .invalidOwnFrame s =
      .next (({ s with inbound := { s.inbound with fifo := rest } }).occur .checkError 1)) ∧
  (∀ (c : Instr) (kind : Byte) (s : State) (f : Frame) (rest : List Frame),
    (c, kind) ∈ [(Instr.pulseFrame, kindPulse), (.valueFrame, kindValue), (.passFrame, kindPass)] →
    s.held = false → s.inbound.fifo = f :: rest → s.isOwn f = true → f.kind = kind →
    f.rightLength = true → s.sampleEntry f = none →
    exec c s = .next (({ s with inbound := { s.inbound with fifo := rest } }).occur .unmappedPoint 1)) ∧
  (∀ (c : Instr) (kind : Byte) (s : State) (f : Frame) (slot : Nat) (e : MapEntry),
    (c, kind) ∈ [(Instr.pulseFrame, kindPulse), (.valueFrame, kindValue), (.passFrame, kindPass)] →
    s.Samples kind f slot e → classify e.record.last f.seqEpoch = .discarded →
    exec c s = .next s.popHead)

/-- The classification of a frame by the last sequence and epoch, row by row. -/
def Obligations.AcceptanceTable : Prop :=
  (∀ x, classify none x = .first) ∧
  (∀ l x, l.epoch ≠ x.epoch → classify (some l) x = .restart) ∧
  (∀ l x d, l.epoch = x.epoch → l.seq < 256 → d < 256 → x.seq = (l.seq + d) % 256 →
    classify (some l) x =
      if d = 0 then .discarded else if d = 1 then .next else if d ≤ 128 then .gap else .discarded)

/-- A broadcast sample of a mapped point, and a broadcast TRIGGER, are taken exactly as the own-node frame
would be and then appended to the Forward Queue, at one event, once that queue has room. -/
def Obligations.BroadcastIsTakenThenForwarded : Prop :=
  ∀ (c : Instr) (kind : Byte) (s t : State) (f : Frame) (rest : List Frame) (own : Byte),
    (c, kind) ∈ [(Instr.pulseFrame, kindPulse), (.valueFrame, kindValue), (.passFrame, kindPass),
      (.triggerFrame, kindTrigger)] →
    s.held = false → s.ownNode = some own.toNat → s.inbound.fifo = f :: rest →
    f.dest = broadcast → f.kind = kind → f.rightLength = true →
    (kind ≠ kindTrigger → (s.sampleEntry f).isSome = true) → s.forward.length < 16 →
    exec c { s with inbound := { s.inbound with fifo := { f with dest := own } :: rest } } = .next t →
    exec c s = .next { t with forward := t.forward ++ [f] }

/-! ## Requests -/

/-- A request that a row takes leaves the FIFO and gets exactly one response, with its tag and kind and to
its source, at the tail of the response queue. RESTART empties that queue first, and after an accepted
SET_SLOT_PLAN a selection follows, so these two are stated apart. -/
def Obligations.OneResponsePerRequest : Prop :=
  ∀ (c : Instr) (k : Nat) (s : State) (f : Frame) (p : List Byte),
    requestKindOf c = some k → c ≠ .restart → c ≠ .setSlotPlan → s.Requests k f p →
    rowTakes c p = true →
    ∃ t result payload, exec c s = .next t ∧ t.inbound.fifo = s.inbound.fifo.tail ∧
      t.responses = s.responses ++ [⟨f.src, f.payload.getD 0 0, BitVec.ofNat 8 k, result, payload⟩]

/-- A request whose payload has not the length of its kind is answered BAD_LENGTH and changes nothing.
UNKNOWN_REQUEST: a kind that is not one of the 38 is answered without payload and changes nothing. -/
def Obligations.CommonChecksOfARequest : Prop :=
  (∀ (c : Instr) (k : Nat) (s : State) (f : Frame) (p : List Byte),
    requestKindOf c = some k → s.Requests k f p → lengthFits k p = false →
    exec c s = .next (s.answered f .badLength [])) ∧
  (∀ (k : Nat) (s : State) (f : Frame) (p : List Byte), k < 256 → k = 0 ∨ 38 < k → s.Requests k f p →
    exec .unknownRequest s = .next (s.answered f .unknownRequest []))

/-- A request answered with a refusal, NOT_FOUND, CHECK_FAILED or a common-check failure changes nothing
but that it leaves the FIFO and its response is queued. -/
def Obligations.RefusalChangesNothing : Prop :=
  ∀ (c : Instr) (k : Nat) (s t : State) (f : Frame) (p : List Byte) (x : Response),
    requestKindOf c = some k → s.Requests k f p → exec c s = .next t →
    t.responses = s.responses ++ [x] → x.result ≠ .done → x.result ≠ .pending →
    t = { s.popHead with responses := s.responses ++ [x] }

/-- The reading requests complete with DONE, in each of their selectors, carry what they describe and change
nothing: READ_LIVE, READ_SET_INFO, READ_SCHEDULE, READ_TICKET for every section of the oldest ticket and of
a ticket named by its sequence, READ_PROVE and READ_CONDITIONS. A section or a ticket that is not held, and
a point that is not mapped, answer NOT_FOUND (byte layout log 12, codes log 13, NOTICES log 29). -/
def Obligations.ReadsChangeNothing : Prop :=
  (∀ (s : State) (f : Frame) (a : Byte),
    (s.Requests 6 f [2, a] → exec .readLive s =
      .next (s.answered f .done (s.roleBytes .headerDens ++ s.roleBytes .headerWater))) ∧
    (∀ r, s.Requests 6 f [1, a] → Num4.ofNat? a.toNat = some r →
      exec .readLive s = .next (s.answered f .done (s.liveRun r))) ∧
    (s.Requests 6 f [0, a] → a.toNat ≤ 254 →
      (∀ slot e, s.findPoint a.toNat = some (slot, e) →
        exec .readLive s = .next (s.answered f .done (byte slot ++ byte e.role.code ++
          optional 1 (fun r : RunNo => byte r.toNat) e.role.run? ++ s.recordBytes e.role e.record))) ∧
      (s.findPoint a.toNat = none → exec .readLive s = .next (s.answered f .notFound []))) ∧
    (∀ k, s.Requests 11 f [a] → Num4.ofNat? a.toNat = some k →
      exec .readSetInfo s = .next (s.answered f .done (setInfo s k))) ∧
    (s.Requests 16 f [0, a] → exec .readSchedule s = .next (s.answered f .done s.scheduleList)) ∧
    (∀ b, s.Requests 16 f [1, a] → s.activeBatch = some b →
      exec .readSchedule s = .next (s.answered f .done (s.activeReport b))) ∧
    (∀ b r, s.Requests 16 f [2, a] → s.activeBatch = some b → Num4.ofNat? a.toNat = some r →
      exec .readSchedule s =
        .next (s.answered f .done ((b.records.get r).figures ++ (b.records.get r).sums))) ∧
    (s.Requests 26 f [0] → exec .readProve s = .next (s.answered f .done s.proverReport)) ∧
    (∀ r, s.Requests 26 f [a] → Num4.ofNat? a.toNat = some r →
      exec .readProve s = .next (s.answered f .done (s.proveReport r)))) ∧
  (∀ (s : State) (f : Frame) (a i : Byte) (p : List Byte) (ticket : Option Ticket), p.length = 4 →
    s.Requests 17 f (a :: (p ++ [i])) →
    (a = 0 ∧ ticket = s.tickets.head?) ∨
      (a = 1 ∧ ticket = s.tickets.find? fun x => x.seq == natOf p) →
    (∀ x content, ticket = some x → x.sectionBytes i.toNat = some content →
      exec .readTicket s = .next (s.answered f .done (field 4 x.seq ++ byte i.toNat ++
        byte (x.sections.length + 2) ++ byte s.tickets.length ++ content))) ∧
    (∀ x, ticket = some x → x.sections.length + 2 ≤ i.toNat →
      exec .readTicket s = .next (s.answered f .notFound [])) ∧
    (ticket = none → exec .readTicket s = .next (s.answered f .notFound []))) ∧
  (∀ (s : State) (f : Frame) (a c start : Byte), s.Requests 30 f [a, c, start] →
    (∀ entries, a.toNat ≤ 3 → s.chosen a.toNat c.toNat = some entries → 1 ≤ start.toNat →
      start.toNat ≤ 121 →
      let onward := entries.filter fun e => decide (start.toNat ≤ e.1)
      exec .readConditions s = .next (s.answered f .done
        (((onward.take 11).flatMap fun e => s.entryFields e.1 e.2 ++ flag e.2.pending) ++
          optional 1 byte ((onward.drop 11).head?.map (·.1)) ++ s.tableFields))) ∧
    (a = 4 → exec .readConditions s = .next (s.answered f .done (s.noticeList ++ s.tableFields))))

/-- READ_STATUS carries the fields of R182 in order; that the FIFO occupancy and fill state leave the request
itself out is the model's reading (log 22).
READ_TOTALS carries, for the run selected or for all four in order, the number, the four totalizers and the
two counters, and then the station time. -/
def Obligations.ReadStatusAndTotalsPayloads : Prop :=
  (∀ (s : State) (f : Frame), s.Requests 38 f [] →
    exec .readStatus s = .next (s.answered f .done
      (byte s.mgmt.device.code ++ byte s.mgmt.nodeAddress ++ field 4 s.mgmt.stationTime ++
        flag s.mgmt.timeValid ++ byte s.popHead.inbound.fifo.length ++ byte s.popHead.fillState ++
        byte s.inbound.policy.code ++ byte s.forward.length ++ byte s.responses.length ++
        byte s.batch.schedule.length ++ optional 4 (field 4) (s.activeBatch.bind (·.seq)) ++
        flag s.closePendingFlag ++ byte s.tickets.length ++ byte s.prover.queue.length ++
        optional 1 (fun r : RunNo => byte r.toNat) s.activeProve ++ byte s.summaryLevel))) ∧
  (∀ (s : State) (f : Frame) (a : Byte), s.Requests 19 f [a] →
    let totals (r : RunNo) : List Byte :=
      byte r.toNat ++ signedField 8 (s.totalsOf r).iv ++ signedField 8 (s.totalsOf r).gsv ++
        signedField 8 (s.totalsOf r).nsv ++ signedField 8 (s.totalsOf r).mass ++
        field 4 (s.run r).unbooked ++ field 4 (s.run r).cutoffPulses
    let time := field 4 s.mgmt.stationTime ++ flag s.mgmt.timeValid
    (∀ r, Num4.ofNat? a.toNat = some r →
      exec .readTotals s = .next (s.answered f .done (totals r ++ time))) ∧
    (a = 0 → exec .readTotals s =
      .next (s.answered f .done (totals .n1 ++ totals .n2 ++ totals .n3 ++ totals .n4 ++ time))))

/-! ## Points and runs -/

/-- MAP_POINT for a point id not in the map takes the lowest free slot with a fresh record; UNMAP_POINT
frees the slot. The slot's latched conditions return and the interface detector judges afresh. -/
def Obligations.MapAndUnmapPoint : Prop :=
  (∀ (s : State) (f : Frame) (a b c : Byte) (role : Role) (slot : Nat), s.Requests 1 f [a, b, c] →
    roleOf b.toNat c.toNat = some role → a.toNat ≤ 254 → s.findPoint a.toNat = none →
    s.roleCondition role = true → s.roleTaken role a.toNat = false → s.freeSlot = some slot →
    exec .mapPoint s = .next
      ((((s.popHead.setSlot slot (some ⟨a.toNat, role, s.freshRecord role⟩)).returnLatched slot).judge
        ).queueResponse f .done (byte slot))) ∧
  (∀ (s : State) (f : Frame) (a : Byte) (slot : Nat) (e : MapEntry), s.Requests 2 f [a] →
    s.findPoint a.toNat = some (slot, e) → s.roleCondition e.role = true →
    exec .unmapPoint s = .next
      ((((s.popHead.setSlot slot none).returnLatched slot).judge).queueResponse f .done []))

/-- CONFIGURE_RUN and CONFIGURE_HEADER whole (R17, R18). CONFIGURE_RUN is refused for a run number outside
1 … 4, then for a run that is not CLOSED, then for a field out of range; accepted, it replaces every field
and marks the run configured, zeroes the IV residue where the K-factor differs or the run was not
configured, and keeps every other residue, counter and totalizer and the run's state.
CONFIGURE_HEADER is refused while the device is not UNCOMMISSIONED, then for a field out of range;
accepted, it replaces every field. A refused request changes nothing.
On the live records (R19) an accepted request writes a new substitute into the value in use of a record in
NO_DATA or SUBSTITUTE, and a CONFIGURE_HEADER that changes that value or the water high limit tests above
high limit at once; it touches nothing else of a record, its range, clamped flag and running timers among
that, and no other record. -/
def Obligations.ConfigureRunAndHeader : Prop :=
  (∀ (s : State) (f : Frame) (p : List Byte), s.Requests 3 f p → p.length = 51 →
    (runAt 0 p = none → exec .configureRun s = .next (s.answered f .refusedRange [])) ∧
    (∀ r, runAt 0 p = some r →
      ((s.run r).state ≠ .closed → exec .configureRun s = .next (s.answered f .refusedState [])) ∧
      ((s.run r).state = .closed → (runConfigOf p).inRange = false →
        exec .configureRun s = .next (s.answered f .refusedRange [])) ∧
      ((s.run r).state = .closed → (runConfigOf p).inRange = true →
        ∃ t, exec .configureRun s = .next t ∧
          t.runs = s.runs.set r { s.run r with config := runConfigOf p, configured := true } ∧
          t.chain = s.chain.set r { s.chainOf r with
            ivRes := if (s.run r).configured = true ∧ (s.run r).config.kmilli = (runConfigOf p).kmilli
              then (s.chainOf r).ivRes else 0 } ∧
          t = { s.answered f .done [] with runs := t.runs, chain := t.chain, points := t.points } ∧
          t.points.header = s.points.header ∧
          (∀ role sub slot e, (role, sub) ∈ [(Role.runTemp r, (runConfigOf p).tempSub),
              (.runPres r, (runConfigOf p).presSub)] →
            s.findRole role = some (slot, e) →
            t.slotEntry slot = some { e with record :=
              if e.record.quality = .noData ∨ e.record.quality = .substitute
              then { e.record with value := some sub } else e.record }) ∧
          (∀ slot, (∀ e, s.slotEntry slot = some e → e.role ≠ .runTemp r ∧ e.role ≠ .runPres r) →
            t.slotEntry slot = s.slotEntry slot)))) ∧
  (∀ (s : State) (f : Frame) (p : List Byte), s.Requests 4 f p → p.length = 36 →
    (s.mgmt.device ≠ .uncommissioned →
      exec .configureHeader s = .next (s.answered f .refusedState [])) ∧
    (s.mgmt.device = .uncommissioned → (headerConfigOf p).inRange = false →
      exec .configureHeader s = .next (s.answered f .refusedRange [])) ∧
    (s.mgmt.device = .uncommissioned → (headerConfigOf p).inRange = true →
      ∃ t, exec .configureHeader s = .next t ∧ t.points.header = headerConfigOf p ∧
        t = { s.answered f .done [] with points := t.points } ∧
        (∀ slot e, s.findRole .headerWater = some (slot, e) →
          let value := if e.record.quality = .noData ∨ e.record.quality = .substitute
            then some (headerConfigOf p).waterSub else e.record.value
          ∃ high, t.slotEntry slot = some { e with record :=
              { e.record with value := value, aboveHigh := high } } ∧
            ((headerConfigOf p).waterLimit ≠ s.points.header.waterLimit ∨ value ≠ e.record.value →
              ∀ v, value = some v → high = decide ((headerConfigOf p).waterLimit < v))) ∧
        (∀ slot, (∀ e, s.slotEntry slot = some e → e.role ≠ .headerWater) →
          t.slotEntry slot = s.slotEntry slot)))

/-- SET_RUN_SERVICE, in every form: opening a CLOSED run that is configured and has its PULSE point makes
it IDLE and returns OOS_FLOW, and without either it is REFUSED_STATE; a run number outside 1 … 4 is
REFUSED_RANGE; opening an open run withdraws a pending close; closing a METERING run makes
the close pending for 10,000 ms; closing a CLOSED run, or one with a close pending, changes nothing.
A run's close takes effect at the close timer's expiry, and at SET_RUN_SERVICE(close) for an IDLE run:
the run is CLOSED with no close pending, its metering flags are clear, and its residues, totalizers,
counters and configuration are kept. An ACTIVE prove of the run ends ABORTED_RUN_CLOSED, and the prover is
handed on; a prove in another state stays. The direction byte before the run, open 0 and close 1, is the model's
choice (log 17), and so is the clock at an expiry taken late (log 4). -/
def Obligations.SetRunService : Prop :=
  let proveEnded (s t : State) (r : RunNo) (now : Nat) : Prop :=
    (∀ k rho count window timer, (s.prove r).state = .active k rho count window timer →
      s.prover.queue = [] ∨ s.ProverOrdered →
      t.prove r = ⟨.none, some ⟨.abortedRunClosed, s.mgmt.stationTime, some k, some count, none⟩⟩ ∧
        s.HandedOn t now) ∧
    ((s.prove r).state.isActive = false → t.prover = s.prover)
  (∀ (s : State) (f : Frame) (a : Byte) (r : RunNo), Num4.ofNat? a.toNat = some r →
    (s.Requests 5 f [0, a] → (s.run r).state = .closed → (s.run r).configured = true →
      (s.findRole (.pulse r)).isSome = true →
      exec .setRunServiceOpen s = .next
        (((s.popHead.setRun r { s.run r with state := .idle }).setFlags r
          { (s.chainOf r).flags with flowingClosed := false }).queueResponse f .done [])) ∧
    (s.Requests 5 f [0, a] → (s.run r).state = .closed →
      (s.run r).configured = false ∨ s.findRole (.pulse r) = none →
      exec .setRunServiceOpen s = .next (s.answered f .refusedState [])) ∧
    (s.Requests 5 f [0, a] → (s.run r).state ≠ .closed →
      exec .setRunServiceOpen s = .next
        ((s.popHead.setRun r { s.run r with closePending := false, closeTimer := none }).queueResponse
          f .done [])) ∧
    (s.Requests 5 f [1, a] → (s.run r).state = .closed →
      exec .setRunServiceClose s = .next (s.answered f .done [])) ∧
    (s.Requests 5 f [1, a] → (s.run r).state = .metering → (s.run r).closePending = false →
      exec .setRunServiceClose s = .next
        ((s.popHead.setRun r
          { s.run r with closePending := true, closeTimer := some (s.now + 10000) }).queueResponse
            f .pending [])) ∧
    (s.Requests 5 f [1, a] → (s.run r).state ≠ .closed → (s.run r).closePending = true →
      exec .setRunServiceClose s = .next (s.answered f .pending []))) ∧
  (∀ (s : State) (f : Frame) (a : Byte), Num4.ofNat? a.toNat = none →
    (s.Requests 5 f [0, a] → exec .setRunServiceOpen s = .next (s.answered f .refusedRange [])) ∧
    (s.Requests 5 f [1, a] → exec .setRunServiceClose s = .next (s.answered f .refusedRange []))) ∧
  (∀ (s : State) (r : RunNo) (expiry : Nat), s.held = false → (s.run r).closeTimer = some expiry →
    ∃ t, exec (.closeTimerExpiry r) s = .next t ∧ t.now = max s.now expiry ∧
      t.runs = s.runs.set r { s.run r with state := .closed, closePending := false, closeTimer := none } ∧
      t.chain = s.chain.set r { s.chainOf r with
        flags := { RunFlags.clear with flowingClosed := (s.chainOf r).flags.flowingClosed } } ∧
      t.totals = s.totals ∧ t.points = s.points ∧ t.tickets = s.tickets ∧
      proveEnded s t r (max s.now expiry)) ∧
  (∀ (s : State) (f : Frame) (a : Byte) (r : RunNo), s.Requests 5 f [1, a] →
    Num4.ofNat? a.toNat = some r → (s.run r).state = .idle → (s.run r).closePending = false →
    ∃ t, exec .setRunServiceClose s = .next t ∧
      t.runs = s.runs.set r { s.run r with state := .closed, closePending := false, closeTimer := none } ∧
      t.chain = s.chain.set r { s.chainOf r with
        flags := { RunFlags.clear with flowingClosed := (s.chainOf r).flags.flowingClosed } } ∧
      t.totals = s.totals ∧ t.points = s.points ∧ t.tickets = s.tickets ∧
      proveEnded s t r s.now ∧ t.responses = (s.answered f .done []).responses)

/-- VALUE_FRAME with status OK: the value in use is the frame's value kept within the configured range,
with clamped set where it was outside; the record is GOOD, its stale timer starts and its hold timer
stops; above high limit is tested for a HEADER_WATER point; the slot's three latched value conditions follow
the record; no other record, no run and, but for the level-3 count, no batch figure changes. -/
def Obligations.ValueFrameTakesTheValue : Prop :=
  ∀ (s : State) (f : Frame) (slot : Nat) (e : MapEntry) (c : ValueConfig),
    s.Samples kindValue f slot e → classify e.record.last f.seqEpoch ≠ .discarded →
    s.valueConfig e.role = some c → natAt 3 1 f.payload = 0 →
    ∃ t rec, exec .valueFrame s = .next t ∧
      t.slotEntry slot = some { e with record := rec } ∧
      (∀ n, n ≠ slot → t.slotEntry n = s.slotEntry n) ∧
      rec.quality = .good ∧ rec.last = some f.seqEpoch ∧
      rec.value = some (if intAt 4 4 f.payload < c.low then c.low
        else if c.high < intAt 4 4 f.payload then c.high else intAt 4 4 f.payload) ∧
      rec.clamped = decide (intAt 4 4 f.payload < c.low ∨ c.high < intAt 4 4 f.payload) ∧
      rec.staleTimer = some (s.now + c.stale) ∧ rec.holdTimer = none ∧
      (e.role = .headerWater → ∀ v, rec.value = some v →
        rec.aboveHigh = decide (s.points.header.waterLimit < v)) ∧
      (s.TablesWhole → s.LatchedFollow t slot e.record rec) ∧
      t.batch.counter = s.batch.counter ∧
      t.batch.schedule.map (fun b => { b with level3 := 0 }) =
        s.batch.schedule.map (fun b => { b with level3 := 0 }) ∧
      t.runs = s.runs ∧ t.chain = s.chain ∧ t.totals = s.totals ∧ t.tickets = s.tickets ∧
      t.tables = s.tables ∧ t.shifts = s.shifts ∧ t.prover = s.prover ∧ t.mgmt = s.mgmt

/-- VALUE_FRAME with status FAULT does not change the value in use of a record that is held: a GOOD record
goes to HELD with its hold timer running, or at a hold limit of 0 to SUBSTITUTE, and any other record keeps
its quality and timers.
STALE_TIMER_EXPIRY takes a record to HELD, or at a hold limit of 0 to SUBSTITUTE; HOLD_TIMER_EXPIRY
takes it to SUBSTITUTE. In SUBSTITUTE a density keeps the last value taken and every other role takes its
substitute, clamped is clear and above high limit is tested for a HEADER_WATER point. The slot's latched
conditions follow the record. The clock at an expiry taken late is the model's choice (log 4). -/
def Obligations.ValueRecordGoesDown : Prop :=
  let substituted (s : State) (e : MapEntry) (c : ValueConfig) (rec : LiveRecord) : Prop :=
    rec.quality = .substitute ∧
      rec.value = (if e.role = .headerDens then e.record.value else c.sub) ∧ rec.clamped = false ∧
      rec.staleTimer = none ∧ rec.holdTimer = none ∧
      (e.role = .headerWater → ∀ v, rec.value = some v →
        rec.aboveHigh = decide (s.points.header.waterLimit < v))
  (∀ (s : State) (f : Frame) (slot : Nat) (e : MapEntry) (c : ValueConfig),
    s.Samples kindValue f slot e → classify e.record.last f.seqEpoch ≠ .discarded →
    s.valueConfig e.role = some c → natAt 3 1 f.payload ≠ 0 →
    ∃ t rec, exec .valueFrame s = .next t ∧ t.slotEntry slot = some { e with record := rec } ∧
      rec.last = some f.seqEpoch ∧ (s.TablesWhole → s.LatchedFollow t slot e.record rec) ∧
      (e.record.quality = .good → 0 < c.hold → rec = { e.record with
        last := some f.seqEpoch, quality := .held, staleTimer := none,
        holdTimer := some (s.now + c.hold) }) ∧
      (e.record.quality = .good → c.hold = 0 → substituted s e c rec) ∧
      (e.record.quality ≠ .good → rec = { e.record with last := some f.seqEpoch })) ∧
  (∀ (s : State) (slot : Nat) (e : MapEntry) (c : ValueConfig) (expiry : Nat), s.held = false →
    s.slotEntry slot = some e → e.record.staleTimer = some expiry → s.valueConfig e.role = some c →
    ∃ t rec, exec (.staleTimerExpiry slot) s = .next t ∧ t.now = max s.now expiry ∧
      t.slotEntry slot = some { e with record := rec } ∧ rec.staleTimer = none ∧
      (s.TablesWhole → s.LatchedFollow t slot e.record rec) ∧
      (0 < c.hold → rec = { e.record with
        quality := .held, staleTimer := none, holdTimer := some (max s.now expiry + c.hold) }) ∧
      (c.hold = 0 → substituted s e c rec) ∧
      t.runs = s.runs ∧ t.chain = s.chain ∧ t.totals = s.totals) ∧
  (∀ (s : State) (slot : Nat) (e : MapEntry) (c : ValueConfig) (expiry : Nat), s.held = false →
    s.slotEntry slot = some e → e.record.holdTimer = some expiry → s.valueConfig e.role = some c →
    ∃ t rec, exec (.holdTimerExpiry slot) s = .next t ∧ t.now = max s.now expiry ∧
      t.slotEntry slot = some { e with record := rec } ∧ substituted s e c rec ∧
      (s.TablesWhole → s.LatchedFollow t slot e.record rec) ∧
      t.runs = s.runs ∧ t.chain = s.chain ∧ t.totals = s.totals)

/-! ## The Measurement Chain -/

/-- PULSE_FRAME of an open run at or above its cutoff, while a batch is active, is booked: the totalizers
take the four increments, the residues are the remainders of the four divisions, and the last rate, factors
and degraded flag are the frame's: MF is the curve's factor times the shift, kept within its limits, CTL and F
are the grid's, CPL comes from F and the pressure, and CCF combines the three. The five metering flags are set
or cleared by the frame, and a pending close of the run then clears them. The PULSE record's baselines become the frame's counts, and no other
run's figures change. The frame is booked to the run's record of the active batch. Where it brings the
batch NSV to the target, a close with cause TARGET is begun: it completes with the frame in its ticket, or
waits on the full ticket store or the missing successor with the frame in the batch's record. -/
def Obligations.PulseFrameIsBooked : Prop :=
  ∀ (s : State) (f : Frame) (slot : Nat) (e : MapEntry) (r : RunNo) (base : Counts) (k : Nat)
    (b : BatchEntry),
    s.Samples kindPulse f slot e → e.role = .pulse r →
    classify e.record.last f.seqEpoch = .next ∨ classify e.record.last f.seqEpoch = .gap →
    e.record.base = some base → 0 < (f.counts.since base).elapsed →
    (s.run r).state ≠ .closed → (s.run r).config.kmilli = some k → s.activeBatch = some b →
    (s.run r).config.cutoff ≤ (formRate k (f.counts.since base)).q →
    let c := (s.run r).config
    let d := f.counts.since base
    let rate := formRate k d
    let inp := s.inputs r b
    let curve := curveLookup ((s.tableSet b.set).curves.get r) rate.q
    let shifted := roundNat (curve.mfc * s.shift r b.set) 1000000
    let mf := if shifted < 800000 then 800000 else if 1200000 < shifted then 1200000 else shifted
    let grid := gridLookup (s.tableSet b.set) inp.temp.value b.rho
    let cpl := 1000000 + roundNat (grid.f * inp.pres.value.toNat) 10000
    let ccf := roundNat (roundNat (grid.ctl * cpl) 1000000 * mf) 1000000
    let factors : Factors := ⟨mf, grid.ctl, cpl, ccf⟩
    let isDegraded := !inp.temp.good || !inp.pres.good || !inp.water.good || curve.missing ||
      curve.atLimit || mf != shifted || grid.atLimit || decide (c.maxRate < rate.q) || rate.saturated
    let water := inp.water.value.toNat
    let i := increments (s.chainOf r) k d.a ccf water b.rho
    ∃ t, exec .pulseFrame s = .next t ∧
      t.totals = s.totals.set r ((s.totalsOf r).add i.iv i.gsv i.nsv i.mass) ∧
      (t.chainOf r).ivRes = (d.a * 1000000000 + (s.chainOf r).ivRes) % k ∧
      (t.chainOf r).gsvRes = (i.iv * ccf + (s.chainOf r).gsvRes) % 1000000 ∧
      (t.chainOf r).nsvRes = (i.gsv * (1000000 - water) + (s.chainOf r).nsvRes) % 1000000 ∧
      (t.chainOf r).massRes = (i.gsv * b.rho + (s.chainOf r).massRes) % 100000 ∧
      (t.chainOf r).lastRate = some rate.q ∧ (t.chainOf r).lastFactors = some factors ∧
      (t.chainOf r).lastDegraded = isDegraded ∧
      (t.chainOf r).flags = (if (s.run r).closePending
        then { RunFlags.clear with flowingClosed := (s.chainOf r).flags.flowingClosed }
        else {
          flowingClosed := (s.chainOf r).flags.flowingClosed
          aboveMax := decide (c.maxRate < rate.q)
          pulseMismatch := c.dual && decide (c.tolerance < ((d.a : Int) - d.b).natAbs)
          curveLimit := curve.atLimit
          curveMissing := curve.missing
          gridLimit := grid.atLimit }) ∧
      (∀ q, q ≠ r → t.chainOf q = s.chainOf q ∧ t.run q = s.run q) ∧
      (t.run r).state = (if (s.run r).closePending then .closed else .metering) ∧
      t.tables = s.tables ∧ t.shifts = s.shifts ∧ t.mgmt = s.mgmt ∧ t.forward = s.forward ∧
      t.responses = s.responses ∧ t.outbound = s.outbound ∧
      t.slotEntry slot = some { e with record := { e.record with
        last := some f.seqEpoch, quality := .good, base := some f.counts } } ∧
      (b.target = none ∨ b.closing.isSome = true ∨
          (∃ target, b.target = some target ∧ b.nsv + i.nsv < target * 1000) →
        t.tickets = s.tickets ∧ ∃ b', t.activeBatch = some b' ∧
        b'.records = b.records.set r ((b.records.get r).book d.a i isDegraded inp factors)) ∧
      (∀ target seq next later, b.target = some target → b.closing = none →
        target * 1000 ≤ b.nsv + i.nsv → b.seq = some seq → s.batch.schedule = b :: next :: later →
        s.tickets.length < 16 →
        ∃ ticket b', t.tickets = s.tickets ++ [ticket] ∧ ticket.seq = seq ∧ ticket.cause = .target ∧
          ticket.nsv = b.nsv + i.nsv ∧ t.batch.schedule = b' :: later ∧
          b'.nomination = next.nomination ∧ b'.seq = some (nextSequence s.batch.counter) ∧
          b'.records = .const .zero) ∧
      (∀ target, b.target = some target → b.closing = none → target * 1000 ≤ b.nsv + i.nsv →
        16 ≤ s.tickets.length ∨ s.batch.schedule = [b] →
        t.tickets = s.tickets ∧ ∃ b', t.activeBatch = some b' ∧
        b'.records = b.records.set r ((b.records.get r).book d.a i isDegraded inp factors) ∧
        b'.closing = some ⟨.target, s.mgmt.stationTime, false, false⟩)

/-- PULSE_FRAME that is not booked: a baseline frame only sets the baselines; a frame whose elapsed time
did not move leaves them; a frame of a CLOSED run, or of any run while UNCOMMISSIONED, adds its pulses to
the unbooked-pulse counter; an open run's frame below the cutoff adds them to the cutoff-pulse counter and
makes the run IDLE. No totalizer and no residue changes. -/
def Obligations.PulseFrameIsNotBooked : Prop :=
  ∀ (s : State) (f : Frame) (slot : Nat) (e : MapEntry) (r : RunNo),
    s.Samples kindPulse f slot e → e.role = .pulse r → (s.run r).closePending = false →
    (classify e.record.last f.seqEpoch = .first ∨ classify e.record.last f.seqEpoch = .restart →
      ∃ t, exec .pulseFrame s = .next t ∧ t.totals = s.totals ∧ t.chain = s.chain ∧ t.runs = s.runs ∧
        t.slotEntry slot = some { e with record := { e.record with
          last := some f.seqEpoch, quality := .good, base := some f.counts } }) ∧
    (∀ base, classify e.record.last f.seqEpoch = .next ∨ classify e.record.last f.seqEpoch = .gap →
      e.record.base = some base →
      ((f.counts.since base).elapsed = 0 →
        ∃ t, exec .pulseFrame s = .next t ∧ t.totals = s.totals ∧ t.chain = s.chain ∧
          t.runs = s.runs ∧
          t.slotEntry slot = some { e with record := { e.record with last := some f.seqEpoch } }) ∧
      (0 < (f.counts.since base).elapsed → (s.run r).state = .closed ∨ s.activeBatch = none →
        ∃ t, exec .pulseFrame s = .next t ∧ t.totals = s.totals ∧
          t.runs = s.runs.set r { s.run r with
            unbooked := ((s.run r).unbooked + (f.counts.since base).a) % 4294967296 } ∧
          (t.chainOf r).ivRes = (s.chainOf r).ivRes ∧ (t.chainOf r).gsvRes = (s.chainOf r).gsvRes ∧
          (t.chainOf r).nsvRes = (s.chainOf r).nsvRes ∧
          (t.chainOf r).massRes = (s.chainOf r).massRes ∧
          ((s.run r).state = .closed → s.mgmt.device ≠ .uncommissioned →
            (t.chainOf r).flags = { (s.chainOf r).flags with
              flowingClosed := decide (0 < (f.counts.since base).a) })) ∧
      (∀ k b, 0 < (f.counts.since base).elapsed → (s.run r).state ≠ .closed →
        s.activeBatch = some b → (s.run r).config.kmilli = some k →
        (formRate k (f.counts.since base)).q < (s.run r).config.cutoff →
        ∃ t, exec .pulseFrame s = .next t ∧ t.totals = s.totals ∧
          t.runs = s.runs.set r { s.run r with
            cutoffPulses := ((s.run r).cutoffPulses + (f.counts.since base).a) % 4294967296,
            state := .idle } ∧
          t.chain = s.chain.set r { s.chainOf r with
            lastRate := some (formRate k (f.counts.since base)).q
            flags := { RunFlags.clear with flowingClosed := (s.chainOf r).flags.flowingClosed } }))

/-- The rate of a frame: ΔA × 3.6 × 10¹⁵ over Kmilli × Δt rounded to the nearest, a tie going up, and
99,999,999 with the saturated mark where the rounded quotient is above it; that the rounded and not the
exact quotient is tested is the model's choice (log 32).
The increments (R61): each times its divisor, with the new residue, is exactly its dividend, each new
residue lies below its divisor, and the NSV increment is at most the GSV increment, equal to it without
water and 0 where all is water. -/
def Obligations.RateAndExactCarry : Prop :=
  (∀ (k : Nat) (d : Counts), 0 < k → 0 < d.elapsed →
    let exact := d.a * 3600000000000000
    let divisor := k * d.elapsed
    ((formRate k d).saturated = true → (formRate k d).q = 99999999 ∧
      divisor * 199999999 ≤ 2 * exact) ∧
    ((formRate k d).saturated = false → (formRate k d).q ≤ 99999999 ∧
      2 * divisor * (formRate k d).q ≤ 2 * exact + divisor ∧
      2 * exact < 2 * divisor * (formRate k d).q + divisor)) ∧
  (∀ (c : ChainRecord) (k pulses ccf water rho : Nat), 0 < k →
    let i := increments c k pulses ccf water rho
    let n := c.carry k pulses ccf water rho
    i.iv * k + n.ivRes = pulses * 1000000000 + c.ivRes ∧
    i.gsv * 1000000 + n.gsvRes = i.iv * ccf + c.gsvRes ∧
    i.nsv * 1000000 + n.nsvRes = i.gsv * (1000000 - water) + c.nsvRes ∧
    i.mass * 100000 + n.massRes = i.gsv * rho + c.massRes ∧
    n.ivRes < k ∧ n.gsvRes < 1000000 ∧ n.nsvRes < 1000000 ∧ n.massRes < 100000 ∧
    (c.nsvRes < 1000000 → i.nsv ≤ i.gsv) ∧
    (c.nsvRes < 1000000 → water = 0 → i.nsv = i.gsv) ∧
    (c.nsvRes < 1000000 → water = 1000000 → i.nsv = 0))

/-- A totalizer takes the exact sum, less 10¹⁶ where that passes 9,999,999,999,999,999, and stays in its
range. -/
def Obligations.TotalizerRollsOver : Prop :=
  ∀ total increment : Nat, total ≤ 9999999999999999 → increment ≤ 9999999999999999 →
    addTotal total increment ≤ 9999999999999999 ∧
    addTotal total increment % 10000000000000000 = (total + increment) % 10000000000000000

/-! ## The Table Store -/

/-- The curve lookup (R43): on a curve in ascending order, the rate of a point reads that point's factor, a
rate below the first or above the last reads the nearest end's with the at-limit flag, a rate between two
points reads the rounded interpolation on their segment, and a NO_CURVE slot reads 1,000,000 and missing.
The rounding is to the nearest, a tie going away from zero.
The grid lookup (R44): CTL and F are each interpolated along temperature and rounded on the two rows of the
density segment, and then between the rounded row values along density; a temperature or a density beyond
its axis is taken as the nearest end, with the at-limit flag. -/
def Obligations.CurveAndGridLookups : Prop :=
  (∀ (points : List CurvePoint) (i : Nat) (x : CurvePoint), 2 ≤ points.length →
    ascending (points.map fun p => (p.rate : Int)) = true → points[i]? = some x →
    curveLookup (.curve points) x.rate = ⟨x.mf, false, false⟩) ∧
  (∀ (points : List CurvePoint) (first last : CurvePoint) (rate : Nat), 2 ≤ points.length →
    ascending (points.map fun p => (p.rate : Int)) = true → points.head? = some first →
    points.getLast? = some last →
    (rate < first.rate → curveLookup (.curve points) rate = ⟨first.mf, false, true⟩) ∧
    (last.rate < rate → curveLookup (.curve points) rate = ⟨last.mf, false, true⟩)) ∧
  (∀ (points : List CurvePoint) (i rate : Nat) (x y : CurvePoint),
    ascending (points.map fun p => (p.rate : Int)) = true → points[i]? = some x →
    points[i + 1]? = some y → x.rate ≤ rate → rate ≤ y.rate →
    curveLookup (.curve points) rate =
      ⟨((x.mf : Int) + roundDiv (((y.mf : Int) - x.mf) * ((rate : Int) - x.rate)) (y.rate - x.rate)).toNat,
        false, false⟩) ∧
  (∀ rate, curveLookup .noCurve rate = ⟨1000000, true, false⟩) ∧
  (∀ (n : Int) (d : Nat), 0 < d →
    2 * (n - roundDiv n d * d).natAbs ≤ d ∧
    (2 * (n - roundDiv n d * d).natAbs = d → n.natAbs ≤ (roundDiv n d * d).natAbs)) ∧
  (∀ (t : TableSet) (temps denss : List Int), t.tempAxis = some temps → t.densAxis = some denss →
    ascending temps = true → ascending denss = true →
    (∀ (i j : Nat) (lower upper : List GridCell) (x0 x1 y0 y1 temp rho : Int) (a b c d : GridCell),
      temps[i]? = some x0 → temps[i + 1]? = some x1 → denss[j]? = some y0 → denss[j + 1]? = some y1 →
      t.rows[j]? = some (some lower) → t.rows[j + 1]? = some (some upper) →
      lower[i]? = some a → lower[i + 1]? = some b → upper[i]? = some c → upper[i + 1]? = some d →
      x0 ≤ temp → temp ≤ x1 → y0 ≤ rho → rho ≤ y1 →
      let along (v w : Nat) : Int := v + roundDiv (((w : Int) - v) * (temp - x0)) (x1 - x0).toNat
      let between (v w : Int) : Nat := (v + roundDiv ((w - v) * (rho - y0)) (y1 - y0).toNat).toNat
      gridLookup t temp rho =
        ⟨between (along a.ctl b.ctl) (along c.ctl d.ctl), between (along a.f b.f) (along c.f d.f),
          false⟩) ∧
    (∀ temp rho first last, temps.head? = some first → temps.getLast? = some last →
      (temp < first → gridLookup t temp rho = { gridLookup t first rho with atLimit := true }) ∧
      (last < temp → gridLookup t temp rho = { gridLookup t last rho with atLimit := true })) ∧
    (∀ temp rho first last, denss.head? = some first → denss.getLast? = some last →
      (rho < first → gridLookup t temp rho = { gridLookup t temp first with atLimit := true }) ∧
      (last < rho → gridLookup t temp rho = { gridLookup t temp last with atLimit := true })))

/-- BEGIN_LOAD and DISCARD_SET whole (R28, R29, R35). A set number or a size out of range is refused, then a
set that is referenced, and nothing changes. An accepted BEGIN_LOAD makes the set LOADING with the declared
sizes and nothing held, whatever it was, and answers 2 plus the density size; an accepted DISCARD_SET makes
it EMPTY; both reset the set's four shift entries and touch nothing else. -/
def Obligations.BeginLoadAndDiscardSet : Prop :=
  (∀ (s : State) (f : Frame) (a m n : Byte), s.Requests 7 f [a, m, n] →
    (Num4.ofNat? a.toNat = none ∨ m.toNat < 2 ∨ 16 < m.toNat ∨ n.toNat < 2 ∨ 8 < n.toNat →
      exec .beginLoad s = .next (s.answered f .refusedRange [])) ∧
    (∀ k, Num4.ofNat? a.toNat = some k → 2 ≤ m.toNat → m.toNat ≤ 16 → 2 ≤ n.toNat → n.toNat ≤ 8 →
      (s.referenced k = true → exec .beginLoad s = .next (s.answered f .refusedInUse [])) ∧
      (s.referenced k = false →
        ∃ t, exec .beginLoad s = .next t ∧
          t = { s.answered f .done (byte (2 + n.toNat)) with
            tables := s.tables.set k ⟨.loading, some ⟨m.toNat, n.toNat⟩, none, none,
              List.replicate n.toNat none, .const .notLoaded, none⟩
            shifts := t.shifts } ∧
          ∀ r j, t.shift r j = if j = k then 1000000 else s.shift r j))) ∧
  (∀ (s : State) (f : Frame) (a : Byte), s.Requests 10 f [a] →
    (Num4.ofNat? a.toNat = none → exec .discardSet s = .next (s.answered f .refusedRange [])) ∧
    (∀ k, Num4.ofNat? a.toNat = some k →
      (s.referenced k = true → exec .discardSet s = .next (s.answered f .refusedInUse [])) ∧
      (s.referenced k = false →
        ∃ t, exec .discardSet s = .next t ∧
          t = { s.answered f .done [] with tables := s.tables.set k .emptySet, shifts := t.shifts } ∧
          ∀ r j, t.shift r j = if j = k then 1000000 else s.shift r j)))

/-- LOAD_SEGMENT that passes its checks stores the segment in the slot of its identity and leaves every
other slot of the set as it was: the two axes, a grid row, a curve and a NO_CURVE. That the identity byte of
an axis and the stated count of a NO_CURVE may have any value is the model's choice (log 30). -/
def Obligations.LoadSegmentStores : Prop :=
  ∀ (s : State) (f : Frame) (a i n : Byte) (v : List Byte) (k : SetNo) (z : Sizes),
    Num4.ofNat? a.toNat = some k → (s.tableSet k).state = .loading → (s.tableSet k).sizes = some z →
    (s.Requests 8 f (a :: 0 :: i :: n :: v) → v.length = n.toNat * 4 → n.toNat = z.temp →
      (tempPoints (a :: 0 :: i :: n :: v)).all (withinInt (-5000) 15000) = true →
      ∃ payload, exec .loadSegment s = .next
        ((s.popHead.setTable k { s.tableSet k with
          tempAxis := some (tempPoints (a :: 0 :: i :: n :: v)) }).queueResponse f .done payload)) ∧
    (s.Requests 8 f (a :: 1 :: i :: n :: v) → v.length = n.toNat * 4 → n.toNat = z.dens →
      (densPoints (a :: 1 :: i :: n :: v)).all (withinInt 50000 120000) = true →
      ∃ payload, exec .loadSegment s = .next
        ((s.popHead.setTable k { s.tableSet k with
          densAxis := some (densPoints (a :: 1 :: i :: n :: v)) }).queueResponse f .done payload)) ∧
    (s.Requests 8 f (a :: 2 :: i :: n :: v) → v.length = n.toNat * 6 → 1 ≤ i.toNat →
      i.toNat ≤ z.dens → n.toNat = z.temp →
      (rowCells (a :: 2 :: i :: n :: v)).all GridCell.inRange = true →
      ∃ payload, exec .loadSegment s = .next
        ((s.popHead.setTable k { s.tableSet k with
          rows := (s.tableSet k).rows.set (i.toNat - 1) (some (rowCells (a :: 2 :: i :: n :: v)))
          }).queueResponse f .done payload)) ∧
    (∀ r, s.Requests 8 f (a :: 3 :: i :: n :: v) → Num4.ofNat? i.toNat = some r →
      v.length = n.toNat * 8 → 2 ≤ n.toNat → n.toNat ≤ 12 →
      (curvePoints (a :: 3 :: i :: n :: v)).all CurvePoint.inRange = true →
      ∃ payload, exec .loadSegment s = .next
        ((s.popHead.setTable k { s.tableSet k with
          curves := (s.tableSet k).curves.set r (.curve (curvePoints (a :: 3 :: i :: n :: v)))
          }).queueResponse f .done payload)) ∧
    (∀ r, s.Requests 8 f [a, 4, i, n] → Num4.ofNat? i.toNat = some r →
      ∃ payload, exec .loadSegment s = .next
        ((s.popHead.setTable k { s.tableSet k with
          curves := (s.tableSet k).curves.set r .noCurve }).queueResponse f .done payload))

/-- COMMIT_SET, check by check: a set number outside 1 … 4, a set that is not LOADING, an incomplete set, one
out of order, and one whose computed signature is not the expected one are refused, the last three with
CHECK_FAILED, and nothing changes; otherwise the set is COMMITTED with its signature, every curve slot a
NO_CURVE or a curve. The reason byte and the presence byte of the signature are the model's choice
(log 12). -/
def Obligations.CommitSetMakesTheSetUsable : Prop :=
  ∀ (s : State) (f : Frame) (a : Byte) (v : List Byte), s.Requests 9 f (a :: v) → v.length = 4 →
    (Num4.ofNat? a.toNat = none → exec .commitSet s = .next (s.answered f .refusedRange [])) ∧
    (∀ k, Num4.ofNat? a.toNat = some k → (s.tableSet k).state ≠ .loading →
      exec .commitSet s = .next (s.answered f .refusedState [])) ∧
    (∀ k, Num4.ofNat? a.toNat = some k → (s.tableSet k).state = .loading →
      let signature := crc32 (s.tableSet k).image
      ((s.tableSet k).complete = false →
        exec .commitSet s = .next (s.answered f .checkFailed (byte 0 ++ List.replicate 5 0))) ∧
      ((s.tableSet k).complete = true → (s.tableSet k).ordered = false →
        exec .commitSet s =
          .next (s.answered f .checkFailed (byte 1 ++ (1 :: field 4 signature.toNat)))) ∧
      ((s.tableSet k).complete = true → (s.tableSet k).ordered = true →
        natOf v ≠ signature.toNat →
        exec .commitSet s =
          .next (s.answered f .checkFailed (byte 2 ++ (1 :: field 4 signature.toNat)))) ∧
      ((s.tableSet k).complete = true → (s.tableSet k).ordered = true →
        natOf v = signature.toNat →
        exec .commitSet s = .next
          ((s.popHead.setTable k { s.tableSet k with
            state := .committed, signature := some signature,
            curves := (s.tableSet k).curves.map CurveSlot.committed }).queueResponse f .done
              (field 4 signature.toNat))))

/-! ## Batches, tickets and totals -/

/-- QUEUE_BATCH appends a queued entry at the tail and answers its position; where that removes the last
obstacle of a close that waits for a successor, the close completes and the entry opens, and with the ticket
store full the close goes on waiting and OVER_TARGET returns.
CANCEL_BATCH removes a queued entry, wherever it stands; where that brings back the successor obstacle of a
close that waits, OVER_TARGET is raised. The active batch is REFUSED_STATE.
AMEND_TARGET replaces the target of a queued entry, and of the active batch while no close waits, and is
REFUSED_STATE while one does. A new target of the active batch that is not above its NSV begins a close with
cause TARGET, which completes where a successor stands and the store has room, and otherwise waits. A
nomination that no entry holds is NOT_FOUND, and a target out of range REFUSED_RANGE. The presence byte of AMEND_TARGET's sequence and the lack of any
in QUEUE_BATCH's are the model's choice (log 12), and so is the position after the effects (log 21). -/
def Obligations.QueueCancelAndAmend : Prop :=
  (∀ (s : State) (f : Frame) (p : List Byte) (k : SetNo) (window : Option DensityWindow),
    s.Requests 12 f p → p.length = 23 → setAt 4 p = some k →
    windowOf (natAt 9 4 p) (natAt 13 4 p) = some window → natAt 0 4 p ≠ 0 →
    (s.tableSet k).state = .committed → 50000 ≤ natAt 5 4 p → natAt 5 4 p ≤ 120000 →
    targetInRange (optionalAt 17 4 p) = true → (∀ b ∈ s.batch.schedule, b.nomination ≠ natAt 0 4 p) →
    s.batch.schedule.length < 8 →
    (s.closePendingFlag = false ∨ (16 ≤ s.tickets.length ∧ s.standing.successor = false) →
      ∃ b, exec .queueBatch s = .next
          ((s.popHead.setSchedule (s.batch.schedule ++ [b])).queueResponse f .done
            (byte (s.batch.schedule.length + 1))) ∧
        b.nomination = natAt 0 4 p ∧ b.set = k ∧ b.rho = natAt 5 4 p ∧ b.window = window ∧
        b.target = optionalAt 17 4 p ∧ b.closeOnInterface = flagAt 22 p ∧ b.seq = none ∧
        b.closing = none) ∧
    (∀ a c seq, s.mgmt.device ≠ .uncommissioned → s.batch.schedule = [a] → a.closing = some c →
      c.cause = .target → c.requestMark = false → c.decommissionMark = false → a.seq = some seq →
      (s.tickets.length < 16 →
        ∃ t ticket b, exec .queueBatch s = .next t ∧ t.tickets = s.tickets ++ [ticket] ∧
          ticket.seq = seq ∧ ticket.cause = .target ∧ t.batch.schedule = [b] ∧
          b.nomination = natAt 0 4 p ∧ b.set = k ∧ b.seq = some (nextSequence s.batch.counter) ∧
          t.responses = (s.answered f .done (byte 1 ++ field 4 seq ++
            field 4 (nextSequence s.batch.counter))).responses) ∧
      (16 ≤ s.tickets.length → s.cond.entries.length = 121 →
        ∃ t b, exec .queueBatch s = .next t ∧ t.tickets = s.tickets ∧ t.batch.schedule = [a, b] ∧
          b.nomination = natAt 0 4 p ∧ b.seq = none ∧
          (t.entry 119).state = (s.entry 119).state.afterReturn ∧
          (∀ n, 1 ≤ n → n ≠ 119 → t.entry n = s.entry n) ∧
          t.responses = (s.answered f .done (byte 2)).responses))) ∧
  (∀ (s : State) (f : Frame) (p : List Byte), s.Requests 13 f p → p.length = 4 →
    ((∀ a ∈ s.batch.schedule, a.nomination ≠ natAt 0 4 p) →
      exec .cancelBatch s = .next (s.answered f .notFound [])) ∧
    (∀ b rest, s.batch.schedule = b :: rest → b.nomination = natAt 0 4 p →
      s.mgmt.device ≠ .uncommissioned → exec .cancelBatch s = .next (s.answered f .refusedState [])) ∧
    (∀ front b back, s.batch.schedule = front ++ b :: back → b.nomination = natAt 0 4 p →
      (∀ a ∈ front, a.nomination ≠ natAt 0 4 p) → front ≠ [] ∨ s.mgmt.device = .uncommissioned →
      s.closePendingFlag = false ∨ 2 ≤ (front ++ back).length ∨
        (∀ a c, front = [a] → a.closing = some c →
          c.cause ≠ .target ∨ c.requestMark = true ∨ c.decommissionMark = true) →
      exec .cancelBatch s = .next ((s.popHead.setSchedule (front ++ back)).queueResponse f .done [])) ∧
    (∀ a b c, s.mgmt.device ≠ .uncommissioned → s.batch.schedule = [a, b] →
      a.nomination ≠ natAt 0 4 p → b.nomination = natAt 0 4 p → a.closing = some c →
      c.cause = .target → c.requestMark = false → c.decommissionMark = false →
      exec .cancelBatch s = .next
        (((s.popHead.setSchedule [a]).raise .overTarget 1).queueResponse f .done []))) ∧
  (∀ (s : State) (f : Frame) (p : List Byte), s.Requests 15 f p → p.length = 9 →
    (∃ x, optionalAt 4 4 p = some x ∧ (x = 0 ∨ 999999999 < x)) →
    exec .amendTarget s = .next (s.answered f .refusedRange [])) ∧
  (∀ (s : State) (f : Frame) (p : List Byte), s.Requests 15 f p → p.length = 9 →
    (∀ x, optionalAt 4 4 p = some x → 1 ≤ x ∧ x ≤ 999999999) →
    ((∀ a ∈ s.batch.schedule, a.nomination ≠ natAt 0 4 p) →
      exec .amendTarget s = .next (s.answered f .notFound [])) ∧
    (∀ front b back, s.batch.schedule = front ++ b :: back → b.nomination = natAt 0 4 p →
      (∀ a ∈ front, a.nomination ≠ natAt 0 4 p) → front ≠ [] ∨ s.mgmt.device = .uncommissioned →
      exec .amendTarget s = .next
        ((s.popHead.setSchedule (front ++ { b with target := optionalAt 4 4 p } :: back)).queueResponse
          f .done [])) ∧
    (∀ b rest, s.mgmt.device ≠ .uncommissioned → s.batch.schedule = b :: rest →
      b.nomination = natAt 0 4 p →
      (b.closing.isSome = true → exec .amendTarget s = .next (s.answered f .refusedState [])) ∧
      (b.closing = none →
        (∀ x, optionalAt 4 4 p = some x → b.nsv < x * 1000) →
        exec .amendTarget s = .next
          ((s.popHead.setSchedule ({ b with target := optionalAt 4 4 p } :: rest)).queueResponse
            f .done [])) ∧
      (∀ x seq, b.closing = none → optionalAt 4 4 p = some x → x * 1000 ≤ b.nsv → b.seq = some seq →
        (∀ next more, rest = next :: more → s.tickets.length < 16 →
          ∃ t ticket b', exec .amendTarget s = .next t ∧ t.tickets = s.tickets ++ [ticket] ∧
            ticket.seq = seq ∧ ticket.cause = .target ∧ ticket.target = some x ∧ ticket.nsv = b.nsv ∧
            t.batch.schedule = b' :: more ∧ b'.nomination = next.nomination ∧
            b'.seq = some (nextSequence s.batch.counter) ∧
            t.responses = (s.answered f .done (1 :: field 4 (nextSequence s.batch.counter))).responses) ∧
        (rest = [] ∨ 16 ≤ s.tickets.length →
          ∃ t b', exec .amendTarget s = .next t ∧ t.tickets = s.tickets ∧
            t.batch.schedule = b' :: rest ∧ b'.target = some x ∧ b'.records = b.records ∧
            b'.closing = some ⟨.target, s.mgmt.stationTime, false, false⟩ ∧
            t.responses = (s.answered f .pending (List.replicate 5 0)).responses))))

/-- CLOSE_BATCH with no close pending and room in the ticket store closes the active batch at once: its
ticket joins the tail of the store with the sums of its run records, the entry behind it, or an
unnominated one of the same set, opens with the next sequence, and no totalizer, residue or shift
changes. An ACTIVE prove stays where its recorded set is the successor's; otherwise it ends
ABORTED_GRADE_CHANGE, and the prover is handed on with the successor as the active batch. -/
def Obligations.CloseBatchMakesATicket : Prop :=
  ∀ (s : State) (f : Frame) (b : BatchEntry) (rest : List BatchEntry) (seq : Nat),
    s.Requests 14 f [] → s.mgmt.device ≠ .uncommissioned → s.batch.schedule = b :: rest →
    b.closing = none → b.seq = some seq → s.tickets.length < 16 →
    ∃ t ticket b', exec .closeBatch s = .next t ∧ t.tickets = s.tickets ++ [ticket] ∧
      ticket.seq = seq ∧ ticket.nomination = b.nomination ∧ ticket.set = b.set ∧
      ticket.cause = .request ∧ ticket.target = b.target ∧
      ticket.overrun = b.target.map (fun x => (b.nsv : Int) - x * 1000) ∧
      ticket.nsv = b.records.n1.nsv + b.records.n2.nsv + b.records.n3.nsv + b.records.n4.nsv ∧
      ticket.mass = b.records.n1.mass + b.records.n2.mass + b.records.n3.mass + b.records.n4.mass ∧
      ticket.closeTime = s.mgmt.stationTime ∧ ticket.openTime = b.openTime ∧
      ticket.timeValid = (b.openValid && s.mgmt.timeValid) ∧
      t.batch.schedule = b' :: rest.tail ∧ t.batch.counter = nextSequence s.batch.counter ∧
      b'.seq = some (nextSequence s.batch.counter) ∧ b'.records = .const .zero ∧ b'.proves = [] ∧
      b'.closing = none ∧
      (rest = [] → b'.nomination = 0 ∧ b'.set = b.set ∧ b'.rho = b.rho ∧ b'.target = none ∧
        b'.window = none) ∧
      (∀ next more, rest = next :: more → b'.nomination = next.nomination ∧ b'.set = next.set) ∧
      (s.activeProve = none → t.prover = s.prover) ∧
      (∀ r k rho count window timer, s.activeProve = some r →
        (s.prove r).state = .active k rho count window timer →
        (b'.set = k → t.prover = s.prover) ∧
        (b'.set ≠ k → s.prover.queue = [] ∨ s.ProverOrdered →
          t.prove r = ⟨.none, some ⟨.abortedGradeChange, s.mgmt.stationTime, some k, some count, none⟩⟩ ∧
          ({ s with batch := t.batch } : State).HandedOn t s.now)) ∧
      t.totals = s.totals ∧ t.chain = s.chain ∧ t.shifts = s.shifts ∧ t.runs = s.runs ∧
      t.mgmt = s.mgmt ∧ t.tables = s.tables

/-- COMMISSION opens the head of the schedule with the next sequence and makes the device MEASURING; runs,
residues, totalizers and counters are kept.
DECOMMISSION with no close pending: with room in the ticket store the batch closes without a successor
and the device is UNCOMMISSIONED, its runs open and its queued entries still queued; with the store full
the device is DECOMMISSIONING and the batch waits with its decommission mark. -/
def Obligations.CommissionAndDecommission : Prop :=
  (∀ (s : State) (f : Frame) (b : BatchEntry) (rest : List BatchEntry), s.Requests 34 f [] →
    s.mgmt.device = .uncommissioned → s.batch.schedule = b :: rest →
    ∃ t, exec .commission s = .next t ∧ t.mgmt = { s.mgmt with device := .measuring } ∧
      t.batch.schedule = { b with
        seq := some (nextSequence s.batch.counter), openTime := s.mgmt.stationTime,
        openValid := s.mgmt.timeValid, records := .const .zero, proves := [], further := 0,
        level3 := 0, closing := none } :: rest ∧
      t.batch.counter = nextSequence s.batch.counter ∧
      t.runs = s.runs ∧ t.chain = s.chain ∧ t.totals = s.totals ∧ t.tickets = s.tickets ∧
      t.responses =
        (s.answered f .done (field 4 (nextSequence s.batch.counter))).responses) ∧
  (∀ (s : State) (f : Frame) (b : BatchEntry) (rest : List BatchEntry), s.Requests 35 f [] →
    s.mgmt.device = .measuring → s.batch.schedule = b :: rest → b.closing = none →
    (∀ r, (s.prove r).state = .none) → s.prover.queue = [] →
    (∀ seq, b.seq = some seq → s.tickets.length < 16 →
      ∃ t ticket, exec .decommission s = .next t ∧ t.mgmt = { s.mgmt with device := .uncommissioned } ∧
        t.tickets = s.tickets ++ [ticket] ∧ ticket.seq = seq ∧ ticket.cause = .decommission ∧
        t.batch.schedule = rest ∧ t.batch.counter = s.batch.counter ∧
        t.batch.detector = .inside ∧ (∀ r, (t.chainOf r).flags = .clear) ∧ t.runs = s.runs ∧
        t.totals = s.totals ∧
        t.responses = (s.answered f .done (field 4 seq)).responses) ∧
    (16 ≤ s.tickets.length →
      ∃ t b', exec .decommission s = .next t ∧ t.mgmt = { s.mgmt with device := .decommissioning } ∧
        t.tickets = s.tickets ∧ t.batch.schedule = b' :: rest ∧
        b'.closing = some ⟨.decommission, s.mgmt.stationTime, false, true⟩ ∧
        b'.records = b.records ∧ t.runs = s.runs ∧ t.chain = s.chain ∧ t.totals = s.totals ∧
        t.responses = (s.answered f .pending []).responses))

/-- INTERFACE_TIMER_EXPIRY takes the detector from TIMING to INTERFACE and raises INTERFACE. Where the batch has
close-on-interface clear or a close pending, no close is made. Otherwise a close with cause INTERFACE is
begun: with room in the ticket store it completes, the entry behind or an unnominated one opens, and
INTERFACE returns at the same event, its raise counted into the successor; with the store full the batch
waits with TICKET_STORE_FULL raised. The clock at an expiry taken late is the model's choice (log 4). -/
def Obligations.InterfaceTimerExpires : Prop :=
  ∀ (s : State) (b : BatchEntry) (expiry : Nat), s.held = false → s.batch.detector = .timing expiry →
    s.activeBatch = some b →
    (b.closeOnInterface = false ∨ b.closing.isSome = true →
      exec .interfaceTimerExpiry s =
        .next (((s.passTo expiry).setDetector .interface).raise .interface 1)) ∧
    (b.closeOnInterface = true → b.closing = none →
      (∀ seq later, s.batch.schedule = b :: later → b.seq = some seq → s.tickets.length < 16 →
        ∃ t ticket b', exec .interfaceTimerExpiry s = .next t ∧ t.now = max s.now expiry ∧
          t.tickets = s.tickets ++ [ticket] ∧ ticket.seq = seq ∧ ticket.cause = .interface ∧
          ticket.nsv = b.nsv ∧ t.batch.schedule = b' :: later.tail ∧
          b'.seq = some (nextSequence s.batch.counter) ∧ b'.records = .const .zero ∧
          b'.level3 = (if s.cond.levels.batch = 3 then 1 else 0) ∧
          (later = [] → b'.nomination = 0 ∧ b'.set = b.set ∧ b'.rho = b.rho) ∧
          (∀ next more, later = next :: more → b'.nomination = next.nomination ∧ b'.set = next.set) ∧
          (s.cond.entries.length = 121 → (t.entry 118).state = .returnedUnack) ∧
          t.totals = s.totals ∧ t.chain = s.chain ∧ t.runs = s.runs ∧ t.mgmt = s.mgmt) ∧
      (16 ≤ s.tickets.length →
        ∃ t b', exec .interfaceTimerExpiry s = .next t ∧ t.now = max s.now expiry ∧
          t.tickets = s.tickets ∧ t.batch.detector = .interface ∧ t.activeBatch = some b' ∧
          b'.closing = some ⟨.interface, s.mgmt.stationTime, false, false⟩ ∧
          b'.records = b.records ∧ t.batch.counter = s.batch.counter ∧
          (s.cond.entries.length = 121 →
            (t.entry 118).state = .activeUnack ∧ (t.entry 120).state = .activeUnack)))

/-- RELEASE_TICKET of the oldest ticket removes it and answers the number held; of another ticket held it
answers REFUSED_ORDER, and of one not held NOT_FOUND, changing nothing. Where a close waits and the removal
takes its last obstacle, the close completes at the request and the answer also carries the batch closed,
the batch opened and the device state; a close that ends a decommission opens none and makes the device
UNCOMMISSIONED; a close that still waits for a successor stays, with the count alone (layout log 12).
SEED_TOTALS whole (R103): refused for a run number or a value out of range, then while the device is not
UNCOMMISSIONED; accepted, it sets the four totalizers of the run, zeroes its four residues, answers the
four values and changes nothing else. -/
def Obligations.ReleaseTicketAndSeedTotals : Prop :=
  (∀ (s : State) (f : Frame) (p : List Byte), s.Requests 18 f p → p.length = 4 →
    (s.tickets = [] → exec .releaseTicket s = .next (s.answered f .notFound [])) ∧
    (∀ x rest, s.tickets = x :: rest →
      (x.seq = natOf p → s.closePendingFlag = false →
        exec .releaseTicket s = .next
          { s.answered f .done (byte rest.length) with tickets := rest }) ∧
      (x.seq ≠ natOf p → (∃ y ∈ rest, y.seq = natOf p) →
        exec .releaseTicket s = .next (s.answered f .refusedOrder [])) ∧
      (x.seq ≠ natOf p → (∀ y ∈ rest, y.seq ≠ natOf p) →
        exec .releaseTicket s = .next (s.answered f .notFound [])) ∧
      (∀ b later c seq, x.seq = natOf p → s.mgmt.device ≠ .uncommissioned →
        s.batch.schedule = b :: later → b.closing = some c → b.seq = some seq → rest.length < 16 →
        (c.decommissionMark = false → c.cause ≠ .decommission →
          c.cause ≠ .target ∨ c.requestMark = true ∨ later ≠ [] →
          ∃ t ticket b', exec .releaseTicket s = .next t ∧ t.tickets = rest ++ [ticket] ∧
            ticket.seq = seq ∧ ticket.cause = c.cause ∧ t.batch.schedule = b' :: later.tail ∧
            b'.seq = some (nextSequence s.batch.counter) ∧ b'.closing = none ∧ t.mgmt = s.mgmt ∧
            t.totals = s.totals ∧
            t.responses = (s.answered f .done (byte (rest.length + 1) ++ field 4 seq ++
              (1 :: field 4 (nextSequence s.batch.counter)) ++ byte s.mgmt.device.code)).responses) ∧
        (c.decommissionMark = true ∨ c.cause = .decommission →
          ∃ t ticket, exec .releaseTicket s = .next t ∧ t.tickets = rest ++ [ticket] ∧
            ticket.seq = seq ∧ ticket.cause = c.cause ∧ t.batch.schedule = later ∧
            t.mgmt = { s.mgmt with device := .uncommissioned } ∧
            (∀ r, (t.chainOf r).flags = .clear) ∧ t.totals = s.totals ∧
            t.responses = (s.answered f .done (byte (rest.length + 1) ++ field 4 seq ++
              List.replicate 5 0 ++ byte 0)).responses) ∧
        (c.cause = .target → c.requestMark = false → c.decommissionMark = false → later = [] →
          ∃ t, exec .releaseTicket s = .next t ∧ t.tickets = rest ∧ t.batch = s.batch ∧
            t.mgmt = s.mgmt ∧ t.totals = s.totals ∧
            t.responses = (s.answered f .done (byte rest.length)).responses)))) ∧
  (∀ (s : State) (f : Frame) (p : List Byte), s.Requests 20 f p → p.length = 33 →
    (runAt 0 p = none ∨
        (∃ i ∈ [0, 1, 2, 3], intAt (1 + 8 * i) 8 p < 0 ∨ 9999999999999999 < intAt (1 + 8 * i) 8 p) →
      exec .seedTotals s = .next (s.answered f .refusedRange [])) ∧
    (∀ r, runAt 0 p = some r →
      (∀ i ∈ [0, 1, 2, 3], 0 ≤ intAt (1 + 8 * i) 8 p ∧ intAt (1 + 8 * i) 8 p ≤ 9999999999999999) →
      (s.mgmt.device ≠ .uncommissioned → exec .seedTotals s = .next (s.answered f .refusedState [])) ∧
      (s.mgmt.device = .uncommissioned →
        exec .seedTotals s = .next
          (((s.popHead.setTotals r ⟨(intAt 1 8 p).toNat, (intAt 9 8 p).toNat, (intAt 17 8 p).toNat,
            (intAt 25 8 p).toNat⟩).setChain r
              { s.chainOf r with ivRes := 0, gsvRes := 0, nsvRes := 0, massRes := 0 }).queueResponse
                f .done (signedField 8 (intAt 1 8 p) ++ signedField 8 (intAt 9 8 p) ++
                  signedField 8 (intAt 17 8 p) ++ signedField 8 (intAt 25 8 p))))))

/-! ## Proving -/

/-- CONFIGURE_PROVER is refused for a field out of range, then while a prove of any run is ACTIVE or
PENDING_ACCEPT; otherwise it replaces every field (widths of the ppm fields log 34).
CLEAR_SHIFT whole (R137): refused for a run or set number outside 1 … 4, then while the run's prove is
ACTIVE or PENDING_ACCEPT; otherwise it sets the one entry to 1,000,000, answers the value it held and
changes nothing else. -/
def Obligations.ConfigureProverAndClearShift : Prop :=
  (∀ (s : State) (f : Frame) (p : List Byte), s.Requests 21 f p → p.length = 38 →
    ((proverConfigOf p).inRange = false →
      exec .configureProver s = .next (s.answered f .refusedRange [])) ∧
    (∀ r k rho count, (proverConfigOf p).inRange = true →
      (∃ window timer, (s.prove r).state = .active k rho count window timer) ∨
        (∃ x timer, (s.prove r).state = .pendingAccept k rho count x timer) →
      exec .configureProver s = .next (s.answered f .refusedState [])) ∧
    ((proverConfigOf p).inRange = true →
      (∀ r, (s.prove r).state = .none ∨ (s.prove r).state = .queued) →
      exec .configureProver s = .next
        { s.answered f .done [] with prover := { s.prover with config := some (proverConfigOf p) } })) ∧
  (∀ (s : State) (f : Frame) (a b : Byte), s.Requests 27 f [a, b] →
    (Num4.ofNat? a.toNat = none ∨ Num4.ofNat? b.toNat = none →
      exec .clearShift s = .next (s.answered f .refusedRange [])) ∧
    (∀ r k, Num4.ofNat? a.toNat = some r → Num4.ofNat? b.toNat = some k →
      ((s.prove r).state ≠ .none → (s.prove r).state ≠ .queued →
        exec .clearShift s = .next (s.answered f .refusedInUse [])) ∧
      ((s.prove r).state = .none ∨ (s.prove r).state = .queued →
        exec .clearShift s = .next
          ((s.popHead.setShift r k 1000000).queueResponse f .done (field 4 (s.shift r k))))))

/-- REQUEST_PROVE of an open run without a prove: while the prover is busy the run joins the tail of the
queue; with the prover free and nobody waiting, a METERING run's prove becomes ACTIVE on the active batch's
set and base density with its pass timer running, and an IDLE run's ends NOT_FLOWING. -/
def Obligations.RequestProve : Prop :=
  ∀ (s : State) (f : Frame) (a : Byte) (r : RunNo) (c : ProverConfig) (b : BatchEntry),
    s.Requests 22 f [a] → Num4.ofNat? a.toNat = some r → s.mgmt.device = .measuring →
    s.prover.config = some c → s.activeBatch = some b → (s.prove r).state = .none →
    (∀ q, s.activeProve = some q → (s.run r).state ≠ .closed →
      ∃ t, exec .requestProve s = .next t ∧ t.prover.queue = s.prover.queue ++ [r] ∧
        (t.prove r).state = .queued ∧ (∀ q, q ≠ r → t.prove q = s.prove q) ∧ t.shifts = s.shifts ∧
        t.cond = s.cond) ∧
    (s.activeProve = none → s.prover.queue = [] → (s.run r).state = .metering →
      ∃ t, exec .requestProve s = .next t ∧ t.prover.queue = [] ∧
        (t.prove r).state = .active b.set b.rho 0 [] (s.now + c.passTimeout * 1000) ∧
        (∀ q, q ≠ r → t.prove q = s.prove q) ∧ t.shifts = s.shifts) ∧
    (s.activeProve = none → s.prover.queue = [] → (s.run r).state = .idle →
      ∃ t, exec .requestProve s = .next t ∧ t.prover.queue = [] ∧
        t.prove r = ⟨.none, some ⟨.notFlowing, s.mgmt.stationTime, none, none, none⟩⟩ ∧
        (∀ q, q ≠ r → t.prove q = s.prove q) ∧ t.shifts = s.shifts)

/-- ACCEPT_PROVE writes the new shift of the run and its recorded set, lists it in the active batch and
ends the prove ACCEPTED, a ninth and later application of a batch adding 1 to its further count instead;
REJECT_PROVE and the accept timer's expiry end it without writing. The clock at an expiry taken late is the
model's choice (log 4). -/
def Obligations.PendingProveEnds : Prop :=
  ∀ (s : State) (r : RunNo) (k : SetNo) (rho count : Nat) (x : ProveResult) (expiry : Nat),
    (s.prove r).state = .pendingAccept k rho count x expiry →
    (∀ f a b rest, s.Requests 24 f [a] → Num4.ofNat? a.toNat = some r →
      s.mgmt.device ≠ .uncommissioned → s.batch.schedule = b :: rest →
      ∃ t, exec .acceptProve s = .next t ∧ t.shifts = (s.setShift r k x.shift).shifts ∧
        (b.proves.length < 8 → t.batch.schedule = { b with
          proves := b.proves ++ [⟨r, x.shift, s.mgmt.stationTime⟩] } :: rest) ∧
        (8 ≤ b.proves.length → t.batch.schedule = { b with
          further := if b.further < 255 then b.further + 1 else 255 } :: rest) ∧
        t.prove r =
          ⟨.none, some ⟨.accepted, s.mgmt.stationTime, some k, some count, some x⟩⟩ ∧
        (∀ q, q ≠ r → t.prove q = s.prove q) ∧ t.chain = s.chain ∧ t.totals = s.totals) ∧
    (∀ f a, s.Requests 25 f [a] → Num4.ofNat? a.toNat = some r →
      ∃ t, exec .rejectProve s = .next t ∧ t.shifts = s.shifts ∧ t.batch = s.batch ∧
        t.prove r =
          ⟨.none, some ⟨.rejected, s.mgmt.stationTime, some k, some count, some x⟩⟩ ∧
        (∀ q, q ≠ r → t.prove q = s.prove q)) ∧
    (s.held = false →
      ∃ t, exec (.acceptTimerExpiry r) s = .next t ∧ t.now = max s.now expiry ∧ t.shifts = s.shifts ∧
        t.prove r =
          ⟨.none, some ⟨.expired, s.mgmt.stationTime, some k, some count, some x⟩⟩ ∧
        (∀ q, q ≠ r → t.prove q = s.prove q))

/-- PASS_TIMER_EXPIRY and CANCEL_PROVE end an ACTIVE prove, ABORTED_TIMEOUT and ABORTED_REQUEST, and hand the
prover on to the queue; CANCEL_PROVE of a QUEUED run takes it out of the queue and ends its prove too.
The clock at an expiry taken late is the model's choice (log 4). A queue that is not empty is that of a
state in which the prover is in order (ProverStaysOrdered). -/
def Obligations.ActiveProveEnds : Prop :=
  (∀ (s : State) (r : RunNo) (k : SetNo) (rho count : Nat) (window : List PassRecord) (expiry : Nat),
    (s.prove r).state = .active k rho count window expiry → s.prover.queue = [] ∨ s.ProverOrdered →
    (s.held = false → s.activeProve = some r →
      ∃ t, exec .passTimerExpiry s = .next t ∧ t.now = max s.now expiry ∧
        t.prove r =
          ⟨.none, some ⟨.abortedTimeout, s.mgmt.stationTime, some k, some count, none⟩⟩ ∧
        s.HandedOn t (max s.now expiry) ∧ t.shifts = s.shifts ∧ t.batch = s.batch) ∧
    (∀ f a, s.Requests 23 f [a] → Num4.ofNat? a.toNat = some r →
      ∃ t, exec .cancelProve s = .next t ∧
        t.prove r =
          ⟨.none, some ⟨.abortedRequest, s.mgmt.stationTime, some k, some count, none⟩⟩ ∧
        s.HandedOn t s.now ∧ t.shifts = s.shifts ∧ t.batch = s.batch)) ∧
  (∀ (s : State) (f : Frame) (a : Byte) (r : RunNo), s.Requests 23 f [a] →
    Num4.ofNat? a.toNat = some r → (s.prove r).state = .queued →
    ∃ t, exec .cancelProve s = .next t ∧
      t.prover.queue = s.prover.queue.filter (fun q => decide (q ≠ r)) ∧
      t.prove r = ⟨.none, some ⟨.abortedRequest, s.mgmt.stationTime, none, none, none⟩⟩ ∧
      (∀ q, q ≠ r → t.prove q = s.prove q) ∧ t.shifts = s.shifts ∧ t.batch = s.batch)

/-- PASS_FRAME with no prove ACTIVE is a stray pass: STRAY_PASS occurs, which an UNCOMMISSIONED part does not
take (R145), and no prove record changes. With a prove ACTIVE, an invalid pass counts, restarts the pass
timer and empties the window, and at the maximum the prove ends FAILED_REPEATABILITY. A pass is invalid for
its status, for no pulses, for a temperature or a pressure out of range, for a GSVm of 0, and for an MF_pass
outside 800,000 … 1,200,000. -/
def Obligations.PassFrameStrayAndInvalid : Prop :=
  ∀ (s : State) (f : Frame) (slot : Nat) (e : MapEntry), s.Samples kindPass f slot e →
    classify e.record.last f.seqEpoch ≠ .discarded →
    (s.activeProve = none →
      ∃ t, exec .passFrame s = .next t ∧ t.prover = s.prover ∧ t.shifts = s.shifts ∧
        t.totals = s.totals ∧ t.chain = s.chain ∧
        (s.TablesWhole → s.mgmt.device ≠ .uncommissioned →
          (t.entry 121).state = .returnedUnack ∧
          (t.entry 121).count =
            (if (s.entry 121).count < 65535 then (s.entry 121).count + 1 else 65535)) ∧
        (s.TablesWhole → s.mgmt.device = .uncommissioned → t.entry 121 = s.entry 121) ∧
        t.slotEntry slot = some { e with record := { e.record with
          last := some f.seqEpoch, quality := .good, lastPass := some (natAt 3 1 f.payload) } }) ∧
    (∀ r c k rho count window expiry, s.activeProve = some r → s.prover.config = some c →
      1 ≤ c.passes → (s.prove r).state = .active k rho count window expiry →
      let pass := f.pass
      let atMeter := gridLookup (s.tableSet k) (s.tempInUse r).value rho
      let gsvm := meterVolume ((s.run r).config.kmilli.getD 0) pass.np atMeter
        (s.presInUse r).value.toNat
      let gsvp := proverVolume c pass (gridLookup (s.tableSet k) pass.tp rho)
      natAt 16 1 f.payload ≠ 0 ∨ natAt 4 4 f.payload = 0 ∨ intAt 8 4 f.payload < -5000 ∨
        15000 < intAt 8 4 f.payload ∨ 200000 < natAt 12 4 f.payload ∨ gsvm = 0 ∨
        roundNat (gsvp * 1000000) gsvm < 800000 ∨ 1200000 < roundNat (gsvp * 1000000) gsvm →
      (count + 1 < c.maxPasses →
        ∃ t, exec .passFrame s = .next t ∧
          t.prove r = ⟨.active k rho (count + 1) [] (s.now + c.passTimeout * 1000),
            (s.prove r).lastOutcome⟩ ∧
          (∀ q, q ≠ r → t.prove q = s.prove q) ∧ t.shifts = s.shifts ∧ t.totals = s.totals ∧
          t.chain = s.chain) ∧
      (c.maxPasses ≤ count + 1 → s.prover.queue = [] →
        ∃ t, exec .passFrame s = .next t ∧
          t.prove r =
            ⟨.none, some ⟨.failedRepeatability, s.mgmt.stationTime, some k, some (count + 1), none⟩⟩ ∧
          t.shifts = s.shifts))

/-- PASS_FRAME whose pass completes the window of an ACTIVE prove: a shift outside 950,000 … 1,050,000 ends
it REJECTED_LIMIT; within, a deviation up to an auto-accept limit above 0 writes the shift of the run and
the recorded set, lists it and ends the prove APPLIED; otherwise the prove waits for acceptance with its
accept timer running and nothing written. Stated with nobody waiting for the prover. That the last outcome
of APPLIED carries the result formed, its deviation included, is the model's reading (log 20). -/
def Obligations.PassFrameCompletesTheWindow : Prop :=
  ∀ (s : State) (f : Frame) (slot : Nat) (e : MapEntry) (r : RunNo) (c : ProverConfig) (k : SetNo)
    (rho count : Nat) (window : List PassRecord) (expiry : Nat) (b : BatchEntry) (rest : List BatchEntry),
    s.Samples kindPass f slot e → classify e.record.last f.seqEpoch = .next → s.activeProve = some r →
    s.prover.config = some c → (s.prove r).state = .active k rho count window expiry →
    s.prover.queue = [] → s.mgmt.device ≠ .uncommissioned → s.batch.schedule = b :: rest →
    b.proves.length < 8 →
    let w := nextWindow c.passes (count + 1) e.record.lastPass f.pass
      (s.passRecord r k rho c f.pass) window
    let x := s.formResult r k w
    let deviation := x.deviationFrom (s.shift r k)
    windowComplete c w = true →
    (x.shift < 950000 ∨ 1050000 < x.shift →
      ∃ t, exec .passFrame s = .next t ∧ t.shifts = s.shifts ∧ t.batch = s.batch ∧
        t.prove r = ⟨.none, some ⟨.rejectedLimit, s.mgmt.stationTime, some k, some (count + 1), some x⟩⟩) ∧
    (950000 ≤ x.shift → x.shift ≤ 1050000 → 0 < c.autoLimit → deviation ≤ c.autoLimit →
      ∃ t, exec .passFrame s = .next t ∧ t.shifts = (s.setShift r k x.shift).shifts ∧
        t.batch.schedule = { b with
          proves := b.proves ++ [⟨r, x.shift, s.mgmt.stationTime⟩] } :: rest ∧
        t.prove r = ⟨.none, some ⟨.applied, s.mgmt.stationTime, some k, some (count + 1),
          some { x with deviation := some deviation }⟩⟩) ∧
    (950000 ≤ x.shift → x.shift ≤ 1050000 → c.autoLimit = 0 ∨ c.autoLimit < deviation →
      ∃ t, exec .passFrame s = .next t ∧ t.shifts = s.shifts ∧ t.batch = s.batch ∧
        (t.prove r).state = .pendingAccept k rho (count + 1)
          { x with deviation := some deviation } (s.now + c.acceptTimeout * 1000) ∧
        ∀ q, q ≠ r → t.prove q = s.prove q)

/-! ## Conditions and levels -/

/-- The table of R142. A raise leads to ACTIVE_UNACK from every state, also counted and stamped where the
state stays (R144), and at a level above 0 makes the entry pending where its state changes; a return and
an acknowledgement lead where the table says, and one that leaves the state unchanged does nothing to the
entry. None of the three touches another entry. -/
def Obligations.EntryTransitions : Prop :=
  (CondState.normal.afterReturn = .normal ∧ CondState.activeUnack.afterReturn = .returnedUnack ∧
    CondState.activeAck.afterReturn = .normal ∧ CondState.returnedUnack.afterReturn = .returnedUnack) ∧
  (CondState.normal.afterAck = .normal ∧ CondState.activeUnack.afterAck = .activeAck ∧
    CondState.activeAck.afterAck = .activeAck ∧ CondState.returnedUnack.afterAck = .normal) ∧
  (∀ (s : State) (k : CondKind) (i : Nat), s.mgmt.device ≠ .uncommissioned →
    k.entry i ≤ s.cond.entries.length → 1 ≤ i →
    let t := s.raise k i
    (t.entry (k.entry i)).state = .activeUnack ∧
    (t.entry (k.entry i)).count =
      (if (s.entry (k.entry i)).count < 65535 then (s.entry (k.entry i)).count + 1 else 65535) ∧
    (t.entry (k.entry i)).raised =
      some ⟨s.mgmt.stationTime, s.mgmt.timeValid, nextSequence s.cond.raiseSeq⟩ ∧
    t.cond.raiseSeq = nextSequence s.cond.raiseSeq ∧
    (∀ n, 1 ≤ n → n ≠ k.entry i → t.entry n = s.entry n) ∧
    (s.cond.levels.get k.cls ≠ 0 → (s.entry (k.entry i)).state ≠ .activeUnack →
      (t.entry (k.entry i)).pending = true)) ∧
  (∀ (s : State) (k : CondKind) (i : Nat), k.entry i ≤ s.cond.entries.length → 1 ≤ i →
    let t := s.returnCond k i
    (t.entry (k.entry i)).state = (s.entry (k.entry i)).state.afterReturn ∧
    ((t.entry (k.entry i)).state = (s.entry (k.entry i)).state →
      t.entry (k.entry i) = s.entry (k.entry i)) ∧
    ∀ n, 1 ≤ n → n ≠ k.entry i → t.entry n = s.entry n) ∧
  (∀ (s : State) (n : Nat), 1 ≤ n → n ≤ s.cond.entries.length →
    let t := s.acknowledge n
    (t.entry n).state = (s.entry n).state.afterAck ∧
    ((t.entry n).state = (s.entry n).state → t.entry n = s.entry n) ∧
    ∀ m, 1 ≤ m → m ≠ n → t.entry m = s.entry m)

/-- A notice event replaces the content and the time and adds 1 to the event count, which saturates at 255; at
a NOTICE level of 1 or more a notice that is not pending becomes pending with the next sequence, and a
pending one, or any at level 0, keeps its flag and its sequence. COMMISSION sets BATCH_CHANGED and then
DEVICE_STATE, and a close by CLOSE_BATCH sets TICKET_CLOSED and then BATCH_CHANGED, in that order of
sequences. At its transmission start a notice is frozen into its report, is no longer pending, and its
event count is 0. -/
def Obligations.NoticeEvents : Prop :=
  (∀ (s : State) (id : NoticeId) (content : NoticeContent),
    let old := s.notice id
    let t := s.noticeEvent id content
    (t.notice id).content = some content ∧ (t.notice id).time = some s.mgmt.stationTime ∧
    (t.notice id).count = (if old.count < 255 then old.count + 1 else 255) ∧
    (s.cond.levels.notice ≠ 0 → old.pending = false →
      (t.notice id).pending = true ∧ (t.notice id).seq = some (nextSequence s.cond.raiseSeq) ∧
      t.cond.raiseSeq = nextSequence s.cond.raiseSeq) ∧
    (s.cond.levels.notice = 0 ∨ old.pending = true →
      (t.notice id).pending = old.pending ∧ (t.notice id).seq = old.seq ∧
      t.cond.raiseSeq = s.cond.raiseSeq) ∧
    (∀ other, other ≠ id → t.notice other = s.notice other) ∧ t.cond.entries = s.cond.entries ∧
    t.cond.levels = s.cond.levels) ∧
  (∀ (s : State) (f : Frame) (b : BatchEntry) (rest : List BatchEntry), s.Requests 34 f [] →
    s.mgmt.device = .uncommissioned → s.batch.schedule = b :: rest → s.cond.levels.notice ≠ 0 →
    (s.notice .batchChanged).pending = false → (s.notice .deviceState).pending = false →
    ∃ t, exec .commission s = .next t ∧
      (t.notice .batchChanged).content =
        some (.batchChanged (some (nextSequence s.batch.counter, b.nomination))) ∧
      (t.notice .batchChanged).seq = some (nextSequence s.cond.raiseSeq) ∧
      (t.notice .deviceState).content = some (.deviceState .measuring) ∧
      (t.notice .deviceState).seq = some (nextSequence (nextSequence s.cond.raiseSeq)) ∧
      t.notice .ticketClosed = s.notice .ticketClosed ∧
      ∀ r, t.notice (.proveState r) = s.notice (.proveState r)) ∧
  (∀ (s : State) (f : Frame) (b : BatchEntry) (rest : List BatchEntry) (seq : Nat), s.Requests 14 f [] →
    s.mgmt.device ≠ .uncommissioned → s.batch.schedule = b :: rest → b.closing = none →
    b.seq = some seq → s.tickets.length < 16 → s.activeProve = none → s.cond.levels.notice ≠ 0 →
    (s.notice .batchChanged).pending = false → (s.notice .ticketClosed).pending = false →
    ∃ t, exec .closeBatch s = .next t ∧
      (t.notice .ticketClosed).content = some (.ticketClosed seq (s.tickets.length + 1)) ∧
      (t.notice .ticketClosed).seq = some (nextSequence s.cond.raiseSeq) ∧
      (∃ nomination, (t.notice .batchChanged).content =
        some (.batchChanged (some (nextSequence s.batch.counter, nomination)))) ∧
      (t.notice .batchChanged).seq = some (nextSequence (nextSequence s.cond.raiseSeq)) ∧
      t.notice .deviceState = s.notice .deviceState) ∧
  (∀ (s : State) (id : NoticeId) (places : Nat), s.held = false →
    s.conditionOffer = some (.notice id) → s.Finds places .condition →
    s.outbound.sending = none → s.outbound.downstreamReady = true →
    ∃ t, exec .transmissionStart s = .next t ∧
      t.outbound.sending = some (makeFrame 0 (BitVec.ofNat 8 s.mgmt.nodeAddress) kindReport
        (s.statusSummary ++ (s.notice id).reportFields id)) ∧
      t.notice id = { s.notice id with pending := false, count := 0 } ∧
      (∀ other, other ≠ id → t.notice other = s.notice other) ∧ t.cond.entries = s.cond.entries ∧
      t.cond.raiseSeq = s.cond.raiseSeq)

/-- ACK_CONDITIONS acknowledges every entry (ALL) or the entries of a LIST of 1 … 64, one named twice once: an
entry in ACTIVE_UNACK or RETURNED_UNACK moves, and becomes pending where its class level is 1 or more, any
other stays as it is, and the answer carries how many moved and the summary level after it. A count or an
entry out of range is REFUSED_RANGE. The levels, the notices and the raise sequence counter stay. That the
selector byte is 0 for ALL and 1 for LIST is an inference from R183 (log 13).
SET_LEVELS replaces the eight levels, in the order LINK, VALUE, PULSE, FLOW, BATCH, CUSTODY, PROVE, NOTICE, and
answers those replaced; it clears the pending flag of the entries of a class at level 0, and of the notices at
NOTICE level 0, and changes nothing else of an entry or a notice. A level above 3 is REFUSED_RANGE. -/
def Obligations.AcknowledgeAndSetLevels : Prop :=
  (∀ (s : State) (f : Frame) (p : List Byte) (numbers : List Nat), s.Requests 28 f p →
    s.cond.entries.length = 121 →
    (p = [0] ∧ numbers = List.range' 1 121) ∨
      (∃ l : List Byte, p = 1 :: BitVec.ofNat 8 l.length :: l ∧ numbers = l.map BitVec.toNat ∧
        1 ≤ l.length ∧ l.length ≤ 64 ∧ ∀ n ∈ l, 1 ≤ n.toNat ∧ n.toNat ≤ 121) →
    let moves (n : Nat) : Bool := decide (n ∈ numbers) && (s.entry n).state.unack
    ∃ t, exec .ackConditions s = .next t ∧
      t = { s.answered f .done
          (byte ((List.range' 1 121).filter moves).length ++ byte t.summaryLevel) with
        cond := { s.cond with entries := t.cond.entries } } ∧
      ∀ n, 1 ≤ n → n ≤ 121 → t.entry n = if moves n
        then { s.entry n with
          state := (s.entry n).state.afterAck
          pending := (s.entry n).pending || decide (1 ≤ s.levelOf (kindOfEntry n)) }
        else s.entry n) ∧
  (∀ (s : State) (f : Frame) (l : List Byte), l.length < 256 →
    s.Requests 28 f (1 :: BitVec.ofNat 8 l.length :: l) →
    l.length = 0 ∨ 64 < l.length ∨ (∃ n ∈ l, n.toNat = 0 ∨ 121 < n.toNat) →
    exec .ackConditions s = .next (s.answered f .refusedRange [])) ∧
  (∀ (s : State) (f : Frame) (p : List Byte), s.Requests 29 f p → p.length = 8 →
    ((∃ i < 8, 3 < natAt i 1 p) → exec .setLevels s = .next (s.answered f .refusedRange [])) ∧
    ((∀ i < 8, natAt i 1 p ≤ 3) →
      ∃ t, exec .setLevels s = .next t ∧
        t = { s.answered f .done s.cond.levels.bytes with cond := t.cond } ∧
        t.cond.levels = ⟨natAt 0 1 p, natAt 1 1 p, natAt 2 1 p, natAt 3 1 p, natAt 4 1 p, natAt 5 1 p,
          natAt 6 1 p, natAt 7 1 p⟩ ∧
        t.cond.raiseSeq = s.cond.raiseSeq ∧
        (∀ n, 1 ≤ n → n ≤ s.cond.entries.length → t.entry n = { s.entry n with
          pending := (s.entry n).pending && decide (t.cond.levels.get (kindOfEntry n).cls ≠ 0) }) ∧
        ∀ id, t.notice id = { s.notice id with
          pending := (s.notice id).pending && decide (natAt 7 1 p ≠ 0) }))

/-! ## Station time, RESTART, policy and reporting -/

/-- SET_TIME takes its value with time-valid set and starts the second afresh; STATION_TIME_ADVANCE adds 1,
wrapping to 0, at the end of the 1,000 ms. Moving the clock to that end is the model's choice (log 4), and
so is the start of the next second where the advance is taken late (log 28). -/
def Obligations.StationTime : Prop :=
  (∀ (s : State) (f : Frame) (p : List Byte), s.Requests 37 f p → p.length = 4 →
    exec .setTime s = .next
      { s.answered f .done (field 4 s.mgmt.stationTime ++ flag s.mgmt.timeValid) with
        mgmt := { s.mgmt with stationTime := natOf p, timeValid := true, secondStart := s.now } }) ∧
  (∀ s : State, s.held = false →
    exec .stationTimeAdvance s = .next
      { s with
        now := max s.now (s.mgmt.secondStart + 1000)
        mgmt := { s.mgmt with
          stationTime := (s.mgmt.stationTime + 1) % 4294967296
          secondStart := s.mgmt.secondStart + 1000 } })

/-- RESTART while UNCOMMISSIONED empties the queues, the schedule and the proves, makes every record fresh
and every entry NORMAL, and keeps configuration, table sets, shifts, totalizers, residues, counters and
tickets; its DONE is the only response. -/
def Obligations.RestartBringsRestartValues : Prop :=
  ∀ (s : State) (f : Frame), s.Requests 36 f [] → s.mgmt.device = .uncommissioned →
    ∃ t, exec .restart s = .next t ∧
      t.inbound = { s.inbound with fifo := [] } ∧ t.forward = [] ∧
      t.responses = [⟨f.src, f.payload.getD 0 0, 36, .done, []⟩] ∧
      t.batch = { s.batch with schedule := [], detector := .inside } ∧
      t.prover.queue = [] ∧ (∀ r, t.prove r = ⟨.none, none⟩) ∧ t.prover.config = s.prover.config ∧
      (∀ slot e, s.slotEntry slot = some e →
        t.slotEntry slot = some { e with record := s.freshRecord e.role }) ∧
      (∀ n, t.entry n = .normal) ∧ t.cond.levels = s.cond.levels ∧
      t.cond.raiseSeq = s.cond.raiseSeq ∧ t.reports.order = [] ∧
      (∀ r, t.chainOf r = { s.chainOf r with flags := .clear }) ∧ t.runs = s.runs ∧
      t.points.header = s.points.header ∧ t.tables = s.tables ∧ t.shifts = s.shifts ∧
      t.totals = s.totals ∧ t.tickets = s.tickets ∧ t.mgmt = s.mgmt ∧ t.outbound = s.outbound

/-- SET_INBOUND_POLICY takes one of the three policies and answers the one replaced.
SET_SLOT_PLAN of a plan that names FORWARD, RESPONSE and CONDITION, with its interval in range,
replaces plan and interval and sets the pointer to slot 1; while the port is busy nothing else follows. -/
def Obligations.PolicyAndSlotPlanAreReplaced : Prop :=
  (∀ (s : State) (f : Frame) (a : Byte) (policy : Policy), s.Requests 31 f [a] →
    [Policy.hold, .dropNewest, .dropOldestSample][a.toNat]? = some policy →
    exec .setInboundPolicy s = .next
      { s.answered f .done (byte s.inbound.policy.code) with
        inbound := { s.inbound with fifo := s.inbound.fifo.tail, policy := policy } }) ∧
  (∀ (s : State) (f : Frame) (p : List Byte) (plan : List PlanSlot) (x : Frame), s.Requests 32 f p →
    p.length = 21 → (List.range (natAt 0 1 p)).mapM (planSlotOf p) = some plan →
    1 ≤ natAt 0 1 p → natAt 0 1 p ≤ 8 → 10 ≤ natAt 17 4 p → natAt 17 4 p ≤ 1000 →
    planNames plan .forward = true → planNames plan .response = true →
    planNames plan .condition = true → s.outbound.sending = some x →
    exec .setSlotPlan s = .next
      { s.answered f .done [] with outbound := { s.outbound with
        plan := plan, pointer := 1, idleInterval := natAt 17 4 p } })

/-- SET_REPORTING with every value in range replaces the settings and starts or stops the report timer,
keeping each slot's content, pending flag, count and reference; REPORT_PERIOD_EXPIRY triggers the PERIODIC
slots and starts the timer again. A triggered slot that is pending has its content replaced and its count
raised by 1, up to 255, and keeps its place in the result order; those that are not pending become so with a
count of 0 and join its tail in the order run 1, run 2, run 3, run 4, header. The clock at an expiry taken late is the model's choice (log 4), and so is
the start of the next period from the time taken (log 28). -/
def Obligations.ReportingPeriod : Prop :=
  let absorbed (pending : Bool) (count : Nat) : Nat :=
    if pending then if count < 255 then count + 1 else 255 else 0
  (∀ (s : State) (f : Frame) (p : List Byte), s.Requests 33 f p → p.length = 44 →
    natAt 0 4 p = 0 ∨ (100 ≤ natAt 0 4 p ∧ natAt 0 4 p ≤ 60000) →
    (∀ i ∈ [0, 1, 2, 3], natAt (8 + 8 * i) 4 p ≤ 99999999) → natAt 40 4 p ≤ 70000 →
    ∃ t, exec .setReporting s = .next t ∧
      t = { s.answered f .done [] with reports := t.reports } ∧
      t.reports.period = natAt 0 4 p ∧
      t.reports.timer = (if natAt 0 4 p = 0 then none else some (s.now + natAt 0 4 p)) ∧
      t.reports.order = s.reports.order ∧
      (∀ r, t.reports.runSlots.get r = { s.reports.runSlots.get r with
        periodic := flagAt (8 * r.toNat - 4) p, change := flagAt (8 * r.toNat - 3) p,
        external := flagAt (8 * r.toNat - 2) p, batchChange := flagAt (8 * r.toNat - 1) p,
        deadband := natAt (8 * r.toNat) 4 p }) ∧
      t.reports.headerSlot = { s.reports.headerSlot with
        periodic := flagAt 36 p, change := flagAt 37 p, external := flagAt 38 p,
        batchChange := flagAt 39 p, deadband := natAt 40 4 p }) ∧
  (∀ (s : State) (expiry : Nat), s.held = false → s.reports.timer = some expiry →
    ∃ t, exec .reportPeriodExpiry s = .next t ∧ t.now = max s.now expiry ∧
      t.reports.timer = some (max s.now expiry + s.reports.period) ∧
      (∀ r, (s.reports.runSlots.get r).periodic = true →
        (t.reports.runSlots.get r).pending = true ∧
        (t.reports.runSlots.get r).content = some (s.captureRun r) ∧
        (t.reports.runSlots.get r).coalesce = absorbed (s.reports.runSlots.get r).pending
          (s.reports.runSlots.get r).coalesce) ∧
      (∀ r, (s.reports.runSlots.get r).periodic = false →
        t.reports.runSlots.get r = s.reports.runSlots.get r) ∧
      (s.reports.headerSlot.periodic = true → t.reports.headerSlot.pending = true ∧
        t.reports.headerSlot.content = some s.captureHeader ∧
        t.reports.headerSlot.coalesce = absorbed s.reports.headerSlot.pending
          s.reports.headerSlot.coalesce) ∧
      (s.reports.headerSlot.periodic = false → t.reports.headerSlot = s.reports.headerSlot) ∧
      t.reports.order = s.reports.order ++
        [SnapId.run .n1, .run .n2, .run .n3, .run .n4, .header].filter
          (fun id => s.snapEnables .periodic id && !s.snapPending id) ∧
      t.chain = s.chain ∧ t.batch = s.batch ∧ t.cond = s.cond)

/-! ## The outbound link -/

/-- A selection examines the slots from the pointer, in plan order and wrapping, passes over each that supplies
nothing, sends the frame of the first that supplies one, and moves the pointer to the slot after that one.
Stated for FORWARD: TRANSMISSION_START, TRANSMISSION_COMPLETE and DOWNSTREAM_READY_CHANGE start the oldest
forwarded frame unchanged. A line that becomes deasserted makes no selection. -/
def Obligations.ForwardedFrameIsSentUnchanged : Prop :=
  ∀ (s : State) (f : Frame) (rest : List Frame) (places : Nat), s.held = false →
    s.forward = f :: rest → s.Finds places .forward →
    (s.outbound.sending = none → s.outbound.downstreamReady = true →
      exec .transmissionStart s = .next { s with
        forward := rest
        outbound := { s.outbound with
          sending := some f, previous := .other, pointer := s.pointerPast places } }) ∧
    (∀ x, s.outbound.sending = some x → s.outbound.downstreamReady = true →
      exec .transmissionComplete s = .next { s with
        forward := rest
        outbound := { s.outbound with
          sending := some f, previous := .other, pointer := s.pointerPast places, idleStart := s.now } }) ∧
    (s.outbound.sending = none → s.outbound.downstreamReady = false →
      exec (.downstreamReadyChange true) s = .next { s with
        forward := rest
        outbound := { s.outbound with
          sending := some f, previous := .other, pointer := s.pointerPast places,
          downstreamReady := true } }) ∧
    exec (.downstreamReadyChange false) s =
      .next { s with outbound := { s.outbound with downstreamReady := false } }

/-- Where a selection finds RESPONSE, the oldest response is sent with the own node as its source, the status
summary before its fields, and its own CRC.
What a slot supplies: its primary where that source has content and is valid, otherwise its fallback under
the same test. RESULT and CONDITION need an own node, and RESPONSE, as a primary or as a fallback, is held
back directly after a response while FORWARD, RESULT or CONDITION has content. -/
def Obligations.ResponsesTakeTurns : Prop :=
  (∀ (s : State) (x : Response) (rest : List Response) (places : Nat), s.held = false →
    s.responses = x :: rest → s.Finds places .response → s.outbound.sending = none →
    s.outbound.downstreamReady = true →
    exec .transmissionStart s = .next { s with
      responses := rest
      outbound := { s.outbound with
        sending := some (makeFrame x.dest (BitVec.ofNat 8 s.mgmt.nodeAddress) kindResponse
          (s.statusSummary ++ x.tag :: x.kind :: (byte x.result.code ++ x.payload)))
        previous := .response
        pointer := s.pointerPast places } }) ∧
  (∀ (s : State) (slot : PlanSlot),
    let offers (x : Source) : Prop := match x with
      | .forward => s.forward ≠ []
      | .result => s.reports.order ≠ [] ∧ s.ownNode.isSome = true
      | .condition => s.conditionOffer.isSome = true ∧ s.ownNode.isSome = true
      | .response => s.responses ≠ [] ∧ (s.outbound.previous = .response →
          s.forward = [] ∧ s.reports.order = [] ∧ s.conditionOffer = none)
      | .none => False
    (offers slot.primary → s.slotSupply slot = some slot.primary) ∧
    (¬ offers slot.primary → offers slot.fallback → s.slotSupply slot = some slot.fallback) ∧
    (¬ offers slot.primary → ¬ offers slot.fallback → s.slotSupply slot = none))

/-- TRANSMISSION_START where a selection finds RESULT or CONDITION. The run or header snapshot at the head of
the result order goes out with its count of absorbed triggers, its slot no longer pending, its count 0 and its
rate or its density the new reference. The condition on offer goes out as its entry stands and is no longer
pending. The CONDITION source offers the pending entry or notice of the highest level, and among those of one
level the one whose sequence was taken longest ago: the least, for sequences up to the counter. Across the
counter's wrap this is the model's reading (log 11). -/
def Obligations.SnapshotAndReportAreSent : Prop :=
  (∀ (s : State) (r : RunNo) (rest : List SnapId) (x : RunSnapshot) (places : Nat), s.held = false →
    s.reports.order = .run r :: rest → (s.reports.runSlots.get r).content = some x →
    s.Finds places .result → s.outbound.sending = none → s.outbound.downstreamReady = true →
    exec .transmissionStart s = .next { s with
      reports := { s.reports with
        order := rest
        runSlots := s.reports.runSlots.set r { s.reports.runSlots.get r with
          pending := false, coalesce := 0, reference := x.rate.map fun q => (q : Int) } }
      outbound := { s.outbound with
        sending := some (makeFrame 0 (BitVec.ofNat 8 s.mgmt.nodeAddress) kindSnapshot
          (s.statusSummary ++ (byte r.toNat ++ byte (s.reports.runSlots.get r).coalesce ++ x.fields)))
        previous := .other
        pointer := s.pointerPast places } }) ∧
  (∀ (s : State) (rest : List SnapId) (x : HeaderSnapshot) (places : Nat), s.held = false →
    s.reports.order = .header :: rest → s.reports.headerSlot.content = some x →
    s.Finds places .result → s.outbound.sending = none → s.outbound.downstreamReady = true →
    exec .transmissionStart s = .next { s with
      reports := { s.reports with
        order := rest
        headerSlot := { s.reports.headerSlot with
          pending := false, coalesce := 0, reference := x.density } }
      outbound := { s.outbound with
        sending := some (makeFrame 0 (BitVec.ofNat 8 s.mgmt.nodeAddress) kindSnapshot
          (s.statusSummary ++ (byte 5 ++ byte s.reports.headerSlot.coalesce ++ x.fields)))
        previous := .other
        pointer := s.pointerPast places } }) ∧
  (∀ (s : State) (n places : Nat), s.held = false → s.conditionOffer = some (.entry n) →
    s.Finds places .condition → s.outbound.sending = none → s.outbound.downstreamReady = true →
    ∃ t, exec .transmissionStart s = .next t ∧
      t.outbound.sending = some (makeFrame 0 (BitVec.ofNat 8 s.mgmt.nodeAddress) kindReport
        (s.statusSummary ++ (byte 0 ++ s.entryFields n (s.entry n)))) ∧
      t.outbound.previous = .other ∧ t.outbound.pointer = s.pointerPast places ∧
      t.entry n = { s.entry n with pending := false } ∧
      (∀ m, 1 ≤ m → m ≠ n → t.entry m = s.entry m) ∧
      t.cond.levels = s.cond.levels ∧ t.cond.raiseSeq = s.cond.raiseSeq ∧
      t.cond.notices = s.cond.notices ∧ t.forward = s.forward ∧ t.responses = s.responses ∧
      t.reports = s.reports ∧ t.mgmt = s.mgmt) ∧
  (∀ (s : State) (x : Reported), s.conditionOffer = some x →
    s.pends x = true ∧ ∀ y, s.pends y = true → s.reportLevel y < s.reportLevel x ∨
      (s.reportLevel y = s.reportLevel x ∧
        s.sequenceAge (s.reportSeq y) ≤ s.sequenceAge (s.reportSeq x))) ∧
  (∀ s : State, s.conditionOffer = none → ∀ y, s.pends y = false) ∧
  (∀ (s : State) (p q : Nat), 1 ≤ p → p ≤ s.cond.raiseSeq → 1 ≤ q → q ≤ s.cond.raiseSeq →
    s.cond.raiseSeq ≤ 4294967295 → (s.sequenceAge q ≤ s.sequenceAge p ↔ p ≤ q))

/-- IDLE_INTERVAL_REACHED on a link that is not busy, where no slot of the plan supplies a frame: a part with an
own node starts an IDLE frame that carries the status summary alone, moving no pointer and taking nothing from
any source; a part without one waits. Moving the clock to the end of the idle interval is the model's choice
(log 4). -/
def Obligations.IdleFrameOnAQuietLink : Prop :=
  ∀ s : State, s.held = false → s.outbound.sending = none → s.outbound.downstreamReady = true →
    (∀ slot ∈ s.outbound.plan, s.slotSupply slot = none) →
    (∀ own, s.ownNode = some own →
      exec .idleIntervalReached s = .next { s with
        now := max s.now (s.outbound.idleStart + s.outbound.idleInterval)
        outbound := { s.outbound with
          sending := some (makeFrame 0 (BitVec.ofNat 8 s.mgmt.nodeAddress) kindIdle s.statusSummary)
          previous := .other } }) ∧
    (s.ownNode = none →
      exec .idleIntervalReached s = .next { s with
        now := max s.now (s.outbound.idleStart + s.outbound.idleInterval) })
end

