-- ==== Sys2Proof/Laws/State.lean ====
section
/-!
SUPPORT. One lemma for each update of the state and each field: what the update leaves in it.
-/

namespace Sys2Proof

@[simp] theorem Four.get_set_self {α : Type} (f : Four α) (k : Num4) (a : α) : (f.set k a).get k = a := by
  cases k <;> rfl

theorem Four.get_set_of_ne {α : Type} (f : Four α) {k q : Num4} (a : α) (h : q ≠ k) :
    (f.set k a).get q = f.get q := by
  cases k <;> cases q <;> first | rfl | exact absurd rfl h

@[simp] theorem Four.set_get {α : Type} (f : Four α) (k : Num4) : f.set k (f.get k) = f := by
  cases k <;> rfl

@[simp] theorem Four.set_set {α : Type} (f : Four α) (k : Num4) (a b : α) :
    (f.set k a).set k b = f.set k b := by
  cases k <;> rfl

@[simp] theorem Four.get_const {α : Type} (a : α) (k : Num4) : (Four.const a).get k = a := by
  cases k <;> rfl

@[simp] theorem Four.get_map {α β : Type} (g : α → β) (f : Four α) (k : Num4) :
    (f.map g).get k = g (f.get k) := by
  cases k <;> rfl

theorem Num4.mem_all (k : Num4) : k ∈ Num4.all := by cases k <;> decide

@[simp] theorem Num4.ofNat?_toNat (k : Num4) : Num4.ofNat? k.toNat = some k := by cases k <;> rfl

end Sys2Proof

namespace Sys2Proof.Machine

variable (s : State)

@[simp] theorem State.setRun_held (r : RunNo) (u : RunUnit) : (s.setRun r u).held = s.held := rfl
@[simp] theorem State.setRun_now (r : RunNo) (u : RunUnit) : (s.setRun r u).now = s.now := rfl
@[simp] theorem State.setRun_mgmt (r : RunNo) (u : RunUnit) : (s.setRun r u).mgmt = s.mgmt := rfl
@[simp] theorem State.setRun_points (r : RunNo) (u : RunUnit) : (s.setRun r u).points = s.points := rfl
@[simp] theorem State.setRun_runs (r : RunNo) (u : RunUnit) : (s.setRun r u).runs = s.runs.set r u := rfl
@[simp] theorem State.setRun_chain (r : RunNo) (u : RunUnit) : (s.setRun r u).chain = s.chain := rfl
@[simp] theorem State.setRun_tables (r : RunNo) (u : RunUnit) : (s.setRun r u).tables = s.tables := rfl
@[simp] theorem State.setRun_shifts (r : RunNo) (u : RunUnit) : (s.setRun r u).shifts = s.shifts := rfl
@[simp] theorem State.setRun_batch (r : RunNo) (u : RunUnit) : (s.setRun r u).batch = s.batch := rfl
@[simp] theorem State.setRun_totals (r : RunNo) (u : RunUnit) : (s.setRun r u).totals = s.totals := rfl
@[simp] theorem State.setRun_tickets (r : RunNo) (u : RunUnit) : (s.setRun r u).tickets = s.tickets := rfl
@[simp] theorem State.setRun_prover (r : RunNo) (u : RunUnit) : (s.setRun r u).prover = s.prover := rfl
@[simp] theorem State.setRun_cond (r : RunNo) (u : RunUnit) : (s.setRun r u).cond = s.cond := rfl
@[simp] theorem State.setRun_reports (r : RunNo) (u : RunUnit) : (s.setRun r u).reports = s.reports := rfl
@[simp] theorem State.setRun_inbound (r : RunNo) (u : RunUnit) : (s.setRun r u).inbound = s.inbound := rfl
@[simp] theorem State.setRun_forward (r : RunNo) (u : RunUnit) : (s.setRun r u).forward = s.forward := rfl
@[simp] theorem State.setRun_responses (r : RunNo) (u : RunUnit) :
    (s.setRun r u).responses = s.responses := rfl
@[simp] theorem State.setRun_outbound (r : RunNo) (u : RunUnit) : (s.setRun r u).outbound = s.outbound := rfl
@[simp] theorem State.setRun_pending (r : RunNo) (u : RunUnit) : (s.setRun r u).pending = s.pending := rfl

@[simp] theorem State.setChain_held (r : RunNo) (c : ChainRecord) : (s.setChain r c).held = s.held := rfl
@[simp] theorem State.setChain_now (r : RunNo) (c : ChainRecord) : (s.setChain r c).now = s.now := rfl
@[simp] theorem State.setChain_mgmt (r : RunNo) (c : ChainRecord) : (s.setChain r c).mgmt = s.mgmt := rfl
@[simp] theorem State.setChain_points (r : RunNo) (c : ChainRecord) :
    (s.setChain r c).points = s.points := rfl
@[simp] theorem State.setChain_runs (r : RunNo) (c : ChainRecord) : (s.setChain r c).runs = s.runs := rfl
@[simp] theorem State.setChain_chain (r : RunNo) (c : ChainRecord) :
    (s.setChain r c).chain = s.chain.set r c := rfl
@[simp] theorem State.setChain_tables (r : RunNo) (c : ChainRecord) :
    (s.setChain r c).tables = s.tables := rfl
@[simp] theorem State.setChain_shifts (r : RunNo) (c : ChainRecord) :
    (s.setChain r c).shifts = s.shifts := rfl
@[simp] theorem State.setChain_batch (r : RunNo) (c : ChainRecord) : (s.setChain r c).batch = s.batch := rfl
@[simp] theorem State.setChain_totals (r : RunNo) (c : ChainRecord) :
    (s.setChain r c).totals = s.totals := rfl
@[simp] theorem State.setChain_tickets (r : RunNo) (c : ChainRecord) :
    (s.setChain r c).tickets = s.tickets := rfl
@[simp] theorem State.setChain_prover (r : RunNo) (c : ChainRecord) :
    (s.setChain r c).prover = s.prover := rfl
@[simp] theorem State.setChain_cond (r : RunNo) (c : ChainRecord) : (s.setChain r c).cond = s.cond := rfl
@[simp] theorem State.setChain_reports (r : RunNo) (c : ChainRecord) :
    (s.setChain r c).reports = s.reports := rfl
@[simp] theorem State.setChain_inbound (r : RunNo) (c : ChainRecord) :
    (s.setChain r c).inbound = s.inbound := rfl
@[simp] theorem State.setChain_forward (r : RunNo) (c : ChainRecord) :
    (s.setChain r c).forward = s.forward := rfl
@[simp] theorem State.setChain_responses (r : RunNo) (c : ChainRecord) :
    (s.setChain r c).responses = s.responses := rfl
@[simp] theorem State.setChain_outbound (r : RunNo) (c : ChainRecord) :
    (s.setChain r c).outbound = s.outbound := rfl
@[simp] theorem State.setChain_pending (r : RunNo) (c : ChainRecord) :
    (s.setChain r c).pending = s.pending := rfl

@[simp] theorem State.setTable_held (k : SetNo) (t : TableSet) : (s.setTable k t).held = s.held := rfl
@[simp] theorem State.setTable_now (k : SetNo) (t : TableSet) : (s.setTable k t).now = s.now := rfl
@[simp] theorem State.setTable_mgmt (k : SetNo) (t : TableSet) : (s.setTable k t).mgmt = s.mgmt := rfl
@[simp] theorem State.setTable_points (k : SetNo) (t : TableSet) : (s.setTable k t).points = s.points := rfl
@[simp] theorem State.setTable_runs (k : SetNo) (t : TableSet) : (s.setTable k t).runs = s.runs := rfl
@[simp] theorem State.setTable_chain (k : SetNo) (t : TableSet) : (s.setTable k t).chain = s.chain := rfl
@[simp] theorem State.setTable_tables (k : SetNo) (t : TableSet) :
    (s.setTable k t).tables = s.tables.set k t := rfl
@[simp] theorem State.setTable_shifts (k : SetNo) (t : TableSet) : (s.setTable k t).shifts = s.shifts := rfl
@[simp] theorem State.setTable_batch (k : SetNo) (t : TableSet) : (s.setTable k t).batch = s.batch := rfl
@[simp] theorem State.setTable_totals (k : SetNo) (t : TableSet) : (s.setTable k t).totals = s.totals := rfl
@[simp] theorem State.setTable_tickets (k : SetNo) (t : TableSet) :
    (s.setTable k t).tickets = s.tickets := rfl
@[simp] theorem State.setTable_prover (k : SetNo) (t : TableSet) : (s.setTable k t).prover = s.prover := rfl
@[simp] theorem State.setTable_cond (k : SetNo) (t : TableSet) : (s.setTable k t).cond = s.cond := rfl
@[simp] theorem State.setTable_reports (k : SetNo) (t : TableSet) :
    (s.setTable k t).reports = s.reports := rfl
@[simp] theorem State.setTable_inbound (k : SetNo) (t : TableSet) :
    (s.setTable k t).inbound = s.inbound := rfl
@[simp] theorem State.setTable_forward (k : SetNo) (t : TableSet) :
    (s.setTable k t).forward = s.forward := rfl
@[simp] theorem State.setTable_responses (k : SetNo) (t : TableSet) :
    (s.setTable k t).responses = s.responses := rfl
@[simp] theorem State.setTable_outbound (k : SetNo) (t : TableSet) :
    (s.setTable k t).outbound = s.outbound := rfl
@[simp] theorem State.setTable_pending (k : SetNo) (t : TableSet) :
    (s.setTable k t).pending = s.pending := rfl

@[simp] theorem State.setShift_held (r : RunNo) (k : SetNo) (v : Nat) :
    (s.setShift r k v).held = s.held := rfl
@[simp] theorem State.setShift_now (r : RunNo) (k : SetNo) (v : Nat) : (s.setShift r k v).now = s.now := rfl
@[simp] theorem State.setShift_mgmt (r : RunNo) (k : SetNo) (v : Nat) :
    (s.setShift r k v).mgmt = s.mgmt := rfl
@[simp] theorem State.setShift_points (r : RunNo) (k : SetNo) (v : Nat) :
    (s.setShift r k v).points = s.points := rfl
@[simp] theorem State.setShift_runs (r : RunNo) (k : SetNo) (v : Nat) :
    (s.setShift r k v).runs = s.runs := rfl
@[simp] theorem State.setShift_chain (r : RunNo) (k : SetNo) (v : Nat) :
    (s.setShift r k v).chain = s.chain := rfl
@[simp] theorem State.setShift_tables (r : RunNo) (k : SetNo) (v : Nat) :
    (s.setShift r k v).tables = s.tables := rfl
@[simp] theorem State.setShift_shifts (r : RunNo) (k : SetNo) (v : Nat) :
    (s.setShift r k v).shifts = s.shifts.set r ((s.shifts.get r).set k v) := rfl
@[simp] theorem State.setShift_batch (r : RunNo) (k : SetNo) (v : Nat) :
    (s.setShift r k v).batch = s.batch := rfl
@[simp] theorem State.setShift_totals (r : RunNo) (k : SetNo) (v : Nat) :
    (s.setShift r k v).totals = s.totals := rfl
@[simp] theorem State.setShift_tickets (r : RunNo) (k : SetNo) (v : Nat) :
    (s.setShift r k v).tickets = s.tickets := rfl
@[simp] theorem State.setShift_prover (r : RunNo) (k : SetNo) (v : Nat) :
    (s.setShift r k v).prover = s.prover := rfl
@[simp] theorem State.setShift_cond (r : RunNo) (k : SetNo) (v : Nat) :
    (s.setShift r k v).cond = s.cond := rfl
@[simp] theorem State.setShift_reports (r : RunNo) (k : SetNo) (v : Nat) :
    (s.setShift r k v).reports = s.reports := rfl
@[simp] theorem State.setShift_inbound (r : RunNo) (k : SetNo) (v : Nat) :
    (s.setShift r k v).inbound = s.inbound := rfl
@[simp] theorem State.setShift_forward (r : RunNo) (k : SetNo) (v : Nat) :
    (s.setShift r k v).forward = s.forward := rfl
@[simp] theorem State.setShift_responses (r : RunNo) (k : SetNo) (v : Nat) :
    (s.setShift r k v).responses = s.responses := rfl
@[simp] theorem State.setShift_outbound (r : RunNo) (k : SetNo) (v : Nat) :
    (s.setShift r k v).outbound = s.outbound := rfl
@[simp] theorem State.setShift_pending (r : RunNo) (k : SetNo) (v : Nat) :
    (s.setShift r k v).pending = s.pending := rfl

@[simp] theorem State.setTotals_held (r : RunNo) (t : Totals) : (s.setTotals r t).held = s.held := rfl
@[simp] theorem State.setTotals_now (r : RunNo) (t : Totals) : (s.setTotals r t).now = s.now := rfl
@[simp] theorem State.setTotals_mgmt (r : RunNo) (t : Totals) : (s.setTotals r t).mgmt = s.mgmt := rfl
@[simp] theorem State.setTotals_points (r : RunNo) (t : Totals) : (s.setTotals r t).points = s.points := rfl
@[simp] theorem State.setTotals_runs (r : RunNo) (t : Totals) : (s.setTotals r t).runs = s.runs := rfl
@[simp] theorem State.setTotals_chain (r : RunNo) (t : Totals) : (s.setTotals r t).chain = s.chain := rfl
@[simp] theorem State.setTotals_tables (r : RunNo) (t : Totals) : (s.setTotals r t).tables = s.tables := rfl
@[simp] theorem State.setTotals_shifts (r : RunNo) (t : Totals) : (s.setTotals r t).shifts = s.shifts := rfl
@[simp] theorem State.setTotals_batch (r : RunNo) (t : Totals) : (s.setTotals r t).batch = s.batch := rfl
@[simp] theorem State.setTotals_totals (r : RunNo) (t : Totals) :
    (s.setTotals r t).totals = s.totals.set r t := rfl
@[simp] theorem State.setTotals_tickets (r : RunNo) (t : Totals) :
    (s.setTotals r t).tickets = s.tickets := rfl
@[simp] theorem State.setTotals_prover (r : RunNo) (t : Totals) : (s.setTotals r t).prover = s.prover := rfl
@[simp] theorem State.setTotals_cond (r : RunNo) (t : Totals) : (s.setTotals r t).cond = s.cond := rfl
@[simp] theorem State.setTotals_reports (r : RunNo) (t : Totals) :
    (s.setTotals r t).reports = s.reports := rfl
@[simp] theorem State.setTotals_inbound (r : RunNo) (t : Totals) :
    (s.setTotals r t).inbound = s.inbound := rfl
@[simp] theorem State.setTotals_forward (r : RunNo) (t : Totals) :
    (s.setTotals r t).forward = s.forward := rfl
@[simp] theorem State.setTotals_responses (r : RunNo) (t : Totals) :
    (s.setTotals r t).responses = s.responses := rfl
@[simp] theorem State.setTotals_outbound (r : RunNo) (t : Totals) :
    (s.setTotals r t).outbound = s.outbound := rfl
@[simp] theorem State.setTotals_pending (r : RunNo) (t : Totals) :
    (s.setTotals r t).pending = s.pending := rfl

@[simp] theorem State.setProve_held (r : RunNo) (p : ProveRecord) : (s.setProve r p).held = s.held := rfl
@[simp] theorem State.setProve_now (r : RunNo) (p : ProveRecord) : (s.setProve r p).now = s.now := rfl
@[simp] theorem State.setProve_mgmt (r : RunNo) (p : ProveRecord) : (s.setProve r p).mgmt = s.mgmt := rfl
@[simp] theorem State.setProve_points (r : RunNo) (p : ProveRecord) :
    (s.setProve r p).points = s.points := rfl
@[simp] theorem State.setProve_runs (r : RunNo) (p : ProveRecord) : (s.setProve r p).runs = s.runs := rfl
@[simp] theorem State.setProve_chain (r : RunNo) (p : ProveRecord) : (s.setProve r p).chain = s.chain := rfl
@[simp] theorem State.setProve_tables (r : RunNo) (p : ProveRecord) :
    (s.setProve r p).tables = s.tables := rfl
@[simp] theorem State.setProve_shifts (r : RunNo) (p : ProveRecord) :
    (s.setProve r p).shifts = s.shifts := rfl
@[simp] theorem State.setProve_batch (r : RunNo) (p : ProveRecord) : (s.setProve r p).batch = s.batch := rfl
@[simp] theorem State.setProve_totals (r : RunNo) (p : ProveRecord) :
    (s.setProve r p).totals = s.totals := rfl
@[simp] theorem State.setProve_tickets (r : RunNo) (p : ProveRecord) :
    (s.setProve r p).tickets = s.tickets := rfl
@[simp] theorem State.setProve_prover (r : RunNo) (p : ProveRecord) :
    (s.setProve r p).prover = { s.prover with records := s.prover.records.set r p } := rfl
@[simp] theorem State.setProve_cond (r : RunNo) (p : ProveRecord) : (s.setProve r p).cond = s.cond := rfl
@[simp] theorem State.setProve_reports (r : RunNo) (p : ProveRecord) :
    (s.setProve r p).reports = s.reports := rfl
@[simp] theorem State.setProve_inbound (r : RunNo) (p : ProveRecord) :
    (s.setProve r p).inbound = s.inbound := rfl
@[simp] theorem State.setProve_forward (r : RunNo) (p : ProveRecord) :
    (s.setProve r p).forward = s.forward := rfl
@[simp] theorem State.setProve_responses (r : RunNo) (p : ProveRecord) :
    (s.setProve r p).responses = s.responses := rfl
@[simp] theorem State.setProve_outbound (r : RunNo) (p : ProveRecord) :
    (s.setProve r p).outbound = s.outbound := rfl
@[simp] theorem State.setProve_pending (r : RunNo) (p : ProveRecord) :
    (s.setProve r p).pending = s.pending := rfl

@[simp] theorem State.setProveQueue_held (q : List RunNo) : (s.setProveQueue q).held = s.held := rfl
@[simp] theorem State.setProveQueue_now (q : List RunNo) : (s.setProveQueue q).now = s.now := rfl
@[simp] theorem State.setProveQueue_mgmt (q : List RunNo) : (s.setProveQueue q).mgmt = s.mgmt := rfl
@[simp] theorem State.setProveQueue_points (q : List RunNo) : (s.setProveQueue q).points = s.points := rfl
@[simp] theorem State.setProveQueue_runs (q : List RunNo) : (s.setProveQueue q).runs = s.runs := rfl
@[simp] theorem State.setProveQueue_chain (q : List RunNo) : (s.setProveQueue q).chain = s.chain := rfl
@[simp] theorem State.setProveQueue_tables (q : List RunNo) : (s.setProveQueue q).tables = s.tables := rfl
@[simp] theorem State.setProveQueue_shifts (q : List RunNo) : (s.setProveQueue q).shifts = s.shifts := rfl
@[simp] theorem State.setProveQueue_batch (q : List RunNo) : (s.setProveQueue q).batch = s.batch := rfl
@[simp] theorem State.setProveQueue_totals (q : List RunNo) : (s.setProveQueue q).totals = s.totals := rfl
@[simp] theorem State.setProveQueue_tickets (q : List RunNo) : (s.setProveQueue q).tickets = s.tickets := rfl
@[simp] theorem State.setProveQueue_prover (q : List RunNo) :
    (s.setProveQueue q).prover = { s.prover with queue := q } := rfl
@[simp] theorem State.setProveQueue_cond (q : List RunNo) : (s.setProveQueue q).cond = s.cond := rfl
@[simp] theorem State.setProveQueue_reports (q : List RunNo) : (s.setProveQueue q).reports = s.reports := rfl
@[simp] theorem State.setProveQueue_inbound (q : List RunNo) : (s.setProveQueue q).inbound = s.inbound := rfl
@[simp] theorem State.setProveQueue_forward (q : List RunNo) : (s.setProveQueue q).forward = s.forward := rfl
@[simp] theorem State.setProveQueue_responses (q : List RunNo) :
    (s.setProveQueue q).responses = s.responses := rfl
@[simp] theorem State.setProveQueue_outbound (q : List RunNo) :
    (s.setProveQueue q).outbound = s.outbound := rfl
@[simp] theorem State.setProveQueue_pending (q : List RunNo) : (s.setProveQueue q).pending = s.pending := rfl

@[simp] theorem State.setSchedule_held (l : List BatchEntry) : (s.setSchedule l).held = s.held := rfl
@[simp] theorem State.setSchedule_now (l : List BatchEntry) : (s.setSchedule l).now = s.now := rfl
@[simp] theorem State.setSchedule_mgmt (l : List BatchEntry) : (s.setSchedule l).mgmt = s.mgmt := rfl
@[simp] theorem State.setSchedule_points (l : List BatchEntry) : (s.setSchedule l).points = s.points := rfl
@[simp] theorem State.setSchedule_runs (l : List BatchEntry) : (s.setSchedule l).runs = s.runs := rfl
@[simp] theorem State.setSchedule_chain (l : List BatchEntry) : (s.setSchedule l).chain = s.chain := rfl
@[simp] theorem State.setSchedule_tables (l : List BatchEntry) : (s.setSchedule l).tables = s.tables := rfl
@[simp] theorem State.setSchedule_shifts (l : List BatchEntry) : (s.setSchedule l).shifts = s.shifts := rfl
@[simp] theorem State.setSchedule_batch (l : List BatchEntry) :
    (s.setSchedule l).batch = { s.batch with schedule := l } := rfl
@[simp] theorem State.setSchedule_totals (l : List BatchEntry) : (s.setSchedule l).totals = s.totals := rfl
@[simp] theorem State.setSchedule_tickets (l : List BatchEntry) : (s.setSchedule l).tickets = s.tickets := rfl
@[simp] theorem State.setSchedule_prover (l : List BatchEntry) : (s.setSchedule l).prover = s.prover := rfl
@[simp] theorem State.setSchedule_cond (l : List BatchEntry) : (s.setSchedule l).cond = s.cond := rfl
@[simp] theorem State.setSchedule_reports (l : List BatchEntry) : (s.setSchedule l).reports = s.reports := rfl
@[simp] theorem State.setSchedule_inbound (l : List BatchEntry) : (s.setSchedule l).inbound = s.inbound := rfl
@[simp] theorem State.setSchedule_forward (l : List BatchEntry) : (s.setSchedule l).forward = s.forward := rfl
@[simp] theorem State.setSchedule_responses (l : List BatchEntry) :
    (s.setSchedule l).responses = s.responses := rfl
@[simp] theorem State.setSchedule_outbound (l : List BatchEntry) :
    (s.setSchedule l).outbound = s.outbound := rfl
@[simp] theorem State.setSchedule_pending (l : List BatchEntry) : (s.setSchedule l).pending = s.pending := rfl

@[simp] theorem State.setDetector_held (d : Detector) : (s.setDetector d).held = s.held := rfl
@[simp] theorem State.setDetector_now (d : Detector) : (s.setDetector d).now = s.now := rfl
@[simp] theorem State.setDetector_mgmt (d : Detector) : (s.setDetector d).mgmt = s.mgmt := rfl
@[simp] theorem State.setDetector_points (d : Detector) : (s.setDetector d).points = s.points := rfl
@[simp] theorem State.setDetector_runs (d : Detector) : (s.setDetector d).runs = s.runs := rfl
@[simp] theorem State.setDetector_chain (d : Detector) : (s.setDetector d).chain = s.chain := rfl
@[simp] theorem State.setDetector_tables (d : Detector) : (s.setDetector d).tables = s.tables := rfl
@[simp] theorem State.setDetector_shifts (d : Detector) : (s.setDetector d).shifts = s.shifts := rfl
@[simp] theorem State.setDetector_batch (d : Detector) :
    (s.setDetector d).batch = { s.batch with detector := d } := rfl
@[simp] theorem State.setDetector_totals (d : Detector) : (s.setDetector d).totals = s.totals := rfl
@[simp] theorem State.setDetector_tickets (d : Detector) : (s.setDetector d).tickets = s.tickets := rfl
@[simp] theorem State.setDetector_prover (d : Detector) : (s.setDetector d).prover = s.prover := rfl
@[simp] theorem State.setDetector_cond (d : Detector) : (s.setDetector d).cond = s.cond := rfl
@[simp] theorem State.setDetector_reports (d : Detector) : (s.setDetector d).reports = s.reports := rfl
@[simp] theorem State.setDetector_inbound (d : Detector) : (s.setDetector d).inbound = s.inbound := rfl
@[simp] theorem State.setDetector_forward (d : Detector) : (s.setDetector d).forward = s.forward := rfl
@[simp] theorem State.setDetector_responses (d : Detector) : (s.setDetector d).responses = s.responses := rfl
@[simp] theorem State.setDetector_outbound (d : Detector) : (s.setDetector d).outbound = s.outbound := rfl
@[simp] theorem State.setDetector_pending (d : Detector) : (s.setDetector d).pending = s.pending := rfl

@[simp] theorem State.passTo_held (n : Nat) : (s.passTo n).held = s.held := rfl
@[simp] theorem State.passTo_now (n : Nat) : (s.passTo n).now = max s.now n := rfl
@[simp] theorem State.passTo_mgmt (n : Nat) : (s.passTo n).mgmt = s.mgmt := rfl
@[simp] theorem State.passTo_points (n : Nat) : (s.passTo n).points = s.points := rfl
@[simp] theorem State.passTo_runs (n : Nat) : (s.passTo n).runs = s.runs := rfl
@[simp] theorem State.passTo_chain (n : Nat) : (s.passTo n).chain = s.chain := rfl
@[simp] theorem State.passTo_tables (n : Nat) : (s.passTo n).tables = s.tables := rfl
@[simp] theorem State.passTo_shifts (n : Nat) : (s.passTo n).shifts = s.shifts := rfl
@[simp] theorem State.passTo_batch (n : Nat) : (s.passTo n).batch = s.batch := rfl
@[simp] theorem State.passTo_totals (n : Nat) : (s.passTo n).totals = s.totals := rfl
@[simp] theorem State.passTo_tickets (n : Nat) : (s.passTo n).tickets = s.tickets := rfl
@[simp] theorem State.passTo_prover (n : Nat) : (s.passTo n).prover = s.prover := rfl
@[simp] theorem State.passTo_cond (n : Nat) : (s.passTo n).cond = s.cond := rfl
@[simp] theorem State.passTo_reports (n : Nat) : (s.passTo n).reports = s.reports := rfl
@[simp] theorem State.passTo_inbound (n : Nat) : (s.passTo n).inbound = s.inbound := rfl
@[simp] theorem State.passTo_forward (n : Nat) : (s.passTo n).forward = s.forward := rfl
@[simp] theorem State.passTo_responses (n : Nat) : (s.passTo n).responses = s.responses := rfl
@[simp] theorem State.passTo_outbound (n : Nat) : (s.passTo n).outbound = s.outbound := rfl
@[simp] theorem State.passTo_pending (n : Nat) : (s.passTo n).pending = s.pending := rfl

@[simp] theorem State.setSlot_held (slot : Nat) (e : Option MapEntry) :
    (s.setSlot slot e).held = s.held := rfl
@[simp] theorem State.setSlot_now (slot : Nat) (e : Option MapEntry) : (s.setSlot slot e).now = s.now := rfl
@[simp] theorem State.setSlot_mgmt (slot : Nat) (e : Option MapEntry) :
    (s.setSlot slot e).mgmt = s.mgmt := rfl
@[simp] theorem State.setSlot_points (slot : Nat) (e : Option MapEntry) :
    (s.setSlot slot e).points = { s.points with map := s.points.map.set (slot - 1) e } := rfl
@[simp] theorem State.setSlot_runs (slot : Nat) (e : Option MapEntry) :
    (s.setSlot slot e).runs = s.runs := rfl
@[simp] theorem State.setSlot_chain (slot : Nat) (e : Option MapEntry) :
    (s.setSlot slot e).chain = s.chain := rfl
@[simp] theorem State.setSlot_tables (slot : Nat) (e : Option MapEntry) :
    (s.setSlot slot e).tables = s.tables := rfl
@[simp] theorem State.setSlot_shifts (slot : Nat) (e : Option MapEntry) :
    (s.setSlot slot e).shifts = s.shifts := rfl
@[simp] theorem State.setSlot_batch (slot : Nat) (e : Option MapEntry) :
    (s.setSlot slot e).batch = s.batch := rfl
@[simp] theorem State.setSlot_totals (slot : Nat) (e : Option MapEntry) :
    (s.setSlot slot e).totals = s.totals := rfl
@[simp] theorem State.setSlot_tickets (slot : Nat) (e : Option MapEntry) :
    (s.setSlot slot e).tickets = s.tickets := rfl
@[simp] theorem State.setSlot_prover (slot : Nat) (e : Option MapEntry) :
    (s.setSlot slot e).prover = s.prover := rfl
@[simp] theorem State.setSlot_cond (slot : Nat) (e : Option MapEntry) :
    (s.setSlot slot e).cond = s.cond := rfl
@[simp] theorem State.setSlot_reports (slot : Nat) (e : Option MapEntry) :
    (s.setSlot slot e).reports = s.reports := rfl
@[simp] theorem State.setSlot_inbound (slot : Nat) (e : Option MapEntry) :
    (s.setSlot slot e).inbound = s.inbound := rfl
@[simp] theorem State.setSlot_forward (slot : Nat) (e : Option MapEntry) :
    (s.setSlot slot e).forward = s.forward := rfl
@[simp] theorem State.setSlot_responses (slot : Nat) (e : Option MapEntry) :
    (s.setSlot slot e).responses = s.responses := rfl
@[simp] theorem State.setSlot_outbound (slot : Nat) (e : Option MapEntry) :
    (s.setSlot slot e).outbound = s.outbound := rfl
@[simp] theorem State.setSlot_pending (slot : Nat) (e : Option MapEntry) :
    (s.setSlot slot e).pending = s.pending := rfl

@[simp] theorem State.modifyEntry_held (n : Nat) (f : CondEntry → CondEntry) :
    (s.modifyEntry n f).held = s.held := rfl
@[simp] theorem State.modifyEntry_now (n : Nat) (f : CondEntry → CondEntry) :
    (s.modifyEntry n f).now = s.now := rfl
@[simp] theorem State.modifyEntry_mgmt (n : Nat) (f : CondEntry → CondEntry) :
    (s.modifyEntry n f).mgmt = s.mgmt := rfl
@[simp] theorem State.modifyEntry_points (n : Nat) (f : CondEntry → CondEntry) :
    (s.modifyEntry n f).points = s.points := rfl
@[simp] theorem State.modifyEntry_runs (n : Nat) (f : CondEntry → CondEntry) :
    (s.modifyEntry n f).runs = s.runs := rfl
@[simp] theorem State.modifyEntry_chain (n : Nat) (f : CondEntry → CondEntry) :
    (s.modifyEntry n f).chain = s.chain := rfl
@[simp] theorem State.modifyEntry_tables (n : Nat) (f : CondEntry → CondEntry) :
    (s.modifyEntry n f).tables = s.tables := rfl
@[simp] theorem State.modifyEntry_shifts (n : Nat) (f : CondEntry → CondEntry) :
    (s.modifyEntry n f).shifts = s.shifts := rfl
@[simp] theorem State.modifyEntry_batch (n : Nat) (f : CondEntry → CondEntry) :
    (s.modifyEntry n f).batch = s.batch := rfl
@[simp] theorem State.modifyEntry_totals (n : Nat) (f : CondEntry → CondEntry) :
    (s.modifyEntry n f).totals = s.totals := rfl
@[simp] theorem State.modifyEntry_tickets (n : Nat) (f : CondEntry → CondEntry) :
    (s.modifyEntry n f).tickets = s.tickets := rfl
@[simp] theorem State.modifyEntry_prover (n : Nat) (f : CondEntry → CondEntry) :
    (s.modifyEntry n f).prover = s.prover := rfl
@[simp] theorem State.modifyEntry_cond (n : Nat) (f : CondEntry → CondEntry) :
    (s.modifyEntry n f).cond = { s.cond with entries := s.cond.entries.modify (n - 1) f } := rfl
@[simp] theorem State.modifyEntry_reports (n : Nat) (f : CondEntry → CondEntry) :
    (s.modifyEntry n f).reports = s.reports := rfl
@[simp] theorem State.modifyEntry_inbound (n : Nat) (f : CondEntry → CondEntry) :
    (s.modifyEntry n f).inbound = s.inbound := rfl
@[simp] theorem State.modifyEntry_forward (n : Nat) (f : CondEntry → CondEntry) :
    (s.modifyEntry n f).forward = s.forward := rfl
@[simp] theorem State.modifyEntry_responses (n : Nat) (f : CondEntry → CondEntry) :
    (s.modifyEntry n f).responses = s.responses := rfl
@[simp] theorem State.modifyEntry_outbound (n : Nat) (f : CondEntry → CondEntry) :
    (s.modifyEntry n f).outbound = s.outbound := rfl
@[simp] theorem State.modifyEntry_pending (n : Nat) (f : CondEntry → CondEntry) :
    (s.modifyEntry n f).pending = s.pending := rfl

@[simp] theorem State.setNotice_held (id : NoticeId) (n : Notice) : (s.setNotice id n).held = s.held := rfl
@[simp] theorem State.setNotice_now (id : NoticeId) (n : Notice) : (s.setNotice id n).now = s.now := rfl
@[simp] theorem State.setNotice_mgmt (id : NoticeId) (n : Notice) : (s.setNotice id n).mgmt = s.mgmt := rfl
@[simp] theorem State.setNotice_points (id : NoticeId) (n : Notice) :
    (s.setNotice id n).points = s.points := rfl
@[simp] theorem State.setNotice_runs (id : NoticeId) (n : Notice) : (s.setNotice id n).runs = s.runs := rfl
@[simp] theorem State.setNotice_chain (id : NoticeId) (n : Notice) : (s.setNotice id n).chain = s.chain := rfl
@[simp] theorem State.setNotice_tables (id : NoticeId) (n : Notice) :
    (s.setNotice id n).tables = s.tables := rfl
@[simp] theorem State.setNotice_shifts (id : NoticeId) (n : Notice) :
    (s.setNotice id n).shifts = s.shifts := rfl
@[simp] theorem State.setNotice_batch (id : NoticeId) (n : Notice) : (s.setNotice id n).batch = s.batch := rfl
@[simp] theorem State.setNotice_totals (id : NoticeId) (n : Notice) :
    (s.setNotice id n).totals = s.totals := rfl
@[simp] theorem State.setNotice_tickets (id : NoticeId) (n : Notice) :
    (s.setNotice id n).tickets = s.tickets := rfl
@[simp] theorem State.setNotice_prover (id : NoticeId) (n : Notice) :
    (s.setNotice id n).prover = s.prover := rfl
@[simp] theorem State.setNotice_cond (id : NoticeId) (n : Notice) :
    (s.setNotice id n).cond = { s.cond with notices := s.cond.notices.set id n } := rfl
@[simp] theorem State.setNotice_reports (id : NoticeId) (n : Notice) :
    (s.setNotice id n).reports = s.reports := rfl
@[simp] theorem State.setNotice_inbound (id : NoticeId) (n : Notice) :
    (s.setNotice id n).inbound = s.inbound := rfl
@[simp] theorem State.setNotice_forward (id : NoticeId) (n : Notice) :
    (s.setNotice id n).forward = s.forward := rfl
@[simp] theorem State.setNotice_responses (id : NoticeId) (n : Notice) :
    (s.setNotice id n).responses = s.responses := rfl
@[simp] theorem State.setNotice_outbound (id : NoticeId) (n : Notice) :
    (s.setNotice id n).outbound = s.outbound := rfl
@[simp] theorem State.setNotice_pending (id : NoticeId) (n : Notice) :
    (s.setNotice id n).pending = s.pending := rfl

@[simp] theorem State.popHead_held : s.popHead.held = s.held := rfl
@[simp] theorem State.popHead_now : s.popHead.now = s.now := rfl
@[simp] theorem State.popHead_mgmt : s.popHead.mgmt = s.mgmt := rfl
@[simp] theorem State.popHead_points : s.popHead.points = s.points := rfl
@[simp] theorem State.popHead_runs : s.popHead.runs = s.runs := rfl
@[simp] theorem State.popHead_chain : s.popHead.chain = s.chain := rfl
@[simp] theorem State.popHead_tables : s.popHead.tables = s.tables := rfl
@[simp] theorem State.popHead_shifts : s.popHead.shifts = s.shifts := rfl
@[simp] theorem State.popHead_batch : s.popHead.batch = s.batch := rfl
@[simp] theorem State.popHead_totals : s.popHead.totals = s.totals := rfl
@[simp] theorem State.popHead_tickets : s.popHead.tickets = s.tickets := rfl
@[simp] theorem State.popHead_prover : s.popHead.prover = s.prover := rfl
@[simp] theorem State.popHead_cond : s.popHead.cond = s.cond := rfl
@[simp] theorem State.popHead_reports : s.popHead.reports = s.reports := rfl
@[simp] theorem State.popHead_inbound :
    s.popHead.inbound = { s.inbound with fifo := s.inbound.fifo.tail } := rfl
@[simp] theorem State.popHead_forward : s.popHead.forward = s.forward := rfl
@[simp] theorem State.popHead_responses : s.popHead.responses = s.responses := rfl
@[simp] theorem State.popHead_outbound : s.popHead.outbound = s.outbound := rfl
@[simp] theorem State.popHead_pending : s.popHead.pending = s.pending := rfl

@[simp] theorem State.setReception_held (x : Reception) : (s.setReception x).held = s.held := rfl
@[simp] theorem State.setReception_now (x : Reception) : (s.setReception x).now = s.now := rfl
@[simp] theorem State.setReception_mgmt (x : Reception) : (s.setReception x).mgmt = s.mgmt := rfl
@[simp] theorem State.setReception_points (x : Reception) : (s.setReception x).points = s.points := rfl
@[simp] theorem State.setReception_runs (x : Reception) : (s.setReception x).runs = s.runs := rfl
@[simp] theorem State.setReception_chain (x : Reception) : (s.setReception x).chain = s.chain := rfl
@[simp] theorem State.setReception_tables (x : Reception) : (s.setReception x).tables = s.tables := rfl
@[simp] theorem State.setReception_shifts (x : Reception) : (s.setReception x).shifts = s.shifts := rfl
@[simp] theorem State.setReception_batch (x : Reception) : (s.setReception x).batch = s.batch := rfl
@[simp] theorem State.setReception_totals (x : Reception) : (s.setReception x).totals = s.totals := rfl
@[simp] theorem State.setReception_tickets (x : Reception) : (s.setReception x).tickets = s.tickets := rfl
@[simp] theorem State.setReception_prover (x : Reception) : (s.setReception x).prover = s.prover := rfl
@[simp] theorem State.setReception_cond (x : Reception) : (s.setReception x).cond = s.cond := rfl
@[simp] theorem State.setReception_reports (x : Reception) : (s.setReception x).reports = s.reports := rfl
@[simp] theorem State.setReception_inbound (x : Reception) :
    (s.setReception x).inbound = { s.inbound with reception := x } := rfl
@[simp] theorem State.setReception_forward (x : Reception) : (s.setReception x).forward = s.forward := rfl
@[simp] theorem State.setReception_responses (x : Reception) :
    (s.setReception x).responses = s.responses := rfl
@[simp] theorem State.setReception_outbound (x : Reception) : (s.setReception x).outbound = s.outbound := rfl
@[simp] theorem State.setReception_pending (x : Reception) : (s.setReception x).pending = s.pending := rfl

@[simp] theorem State.setFifo_held (l : List Frame) : (s.setFifo l).held = s.held := rfl
@[simp] theorem State.setFifo_now (l : List Frame) : (s.setFifo l).now = s.now := rfl
@[simp] theorem State.setFifo_mgmt (l : List Frame) : (s.setFifo l).mgmt = s.mgmt := rfl
@[simp] theorem State.setFifo_points (l : List Frame) : (s.setFifo l).points = s.points := rfl
@[simp] theorem State.setFifo_runs (l : List Frame) : (s.setFifo l).runs = s.runs := rfl
@[simp] theorem State.setFifo_chain (l : List Frame) : (s.setFifo l).chain = s.chain := rfl
@[simp] theorem State.setFifo_tables (l : List Frame) : (s.setFifo l).tables = s.tables := rfl
@[simp] theorem State.setFifo_shifts (l : List Frame) : (s.setFifo l).shifts = s.shifts := rfl
@[simp] theorem State.setFifo_batch (l : List Frame) : (s.setFifo l).batch = s.batch := rfl
@[simp] theorem State.setFifo_totals (l : List Frame) : (s.setFifo l).totals = s.totals := rfl
@[simp] theorem State.setFifo_tickets (l : List Frame) : (s.setFifo l).tickets = s.tickets := rfl
@[simp] theorem State.setFifo_prover (l : List Frame) : (s.setFifo l).prover = s.prover := rfl
@[simp] theorem State.setFifo_cond (l : List Frame) : (s.setFifo l).cond = s.cond := rfl
@[simp] theorem State.setFifo_reports (l : List Frame) : (s.setFifo l).reports = s.reports := rfl
@[simp] theorem State.setFifo_inbound (l : List Frame) :
    (s.setFifo l).inbound = { s.inbound with fifo := l } := rfl
@[simp] theorem State.setFifo_forward (l : List Frame) : (s.setFifo l).forward = s.forward := rfl
@[simp] theorem State.setFifo_responses (l : List Frame) : (s.setFifo l).responses = s.responses := rfl
@[simp] theorem State.setFifo_outbound (l : List Frame) : (s.setFifo l).outbound = s.outbound := rfl
@[simp] theorem State.setFifo_pending (l : List Frame) : (s.setFifo l).pending = s.pending := rfl

@[simp] theorem State.appendForward_held (f : Frame) : (s.appendForward f).held = s.held := rfl
@[simp] theorem State.appendForward_now (f : Frame) : (s.appendForward f).now = s.now := rfl
@[simp] theorem State.appendForward_mgmt (f : Frame) : (s.appendForward f).mgmt = s.mgmt := rfl
@[simp] theorem State.appendForward_points (f : Frame) : (s.appendForward f).points = s.points := rfl
@[simp] theorem State.appendForward_runs (f : Frame) : (s.appendForward f).runs = s.runs := rfl
@[simp] theorem State.appendForward_chain (f : Frame) : (s.appendForward f).chain = s.chain := rfl
@[simp] theorem State.appendForward_tables (f : Frame) : (s.appendForward f).tables = s.tables := rfl
@[simp] theorem State.appendForward_shifts (f : Frame) : (s.appendForward f).shifts = s.shifts := rfl
@[simp] theorem State.appendForward_batch (f : Frame) : (s.appendForward f).batch = s.batch := rfl
@[simp] theorem State.appendForward_totals (f : Frame) : (s.appendForward f).totals = s.totals := rfl
@[simp] theorem State.appendForward_tickets (f : Frame) : (s.appendForward f).tickets = s.tickets := rfl
@[simp] theorem State.appendForward_prover (f : Frame) : (s.appendForward f).prover = s.prover := rfl
@[simp] theorem State.appendForward_cond (f : Frame) : (s.appendForward f).cond = s.cond := rfl
@[simp] theorem State.appendForward_reports (f : Frame) : (s.appendForward f).reports = s.reports := rfl
@[simp] theorem State.appendForward_inbound (f : Frame) : (s.appendForward f).inbound = s.inbound := rfl
@[simp] theorem State.appendForward_forward (f : Frame) :
    (s.appendForward f).forward = s.forward ++ [f] := rfl
@[simp] theorem State.appendForward_responses (f : Frame) : (s.appendForward f).responses = s.responses := rfl
@[simp] theorem State.appendForward_outbound (f : Frame) : (s.appendForward f).outbound = s.outbound := rfl
@[simp] theorem State.appendForward_pending (f : Frame) : (s.appendForward f).pending = s.pending := rfl

@[simp] theorem State.queueResponse_held (f : Frame) (x : Result) (p : List Byte) :
    (s.queueResponse f x p).held = s.held := rfl
@[simp] theorem State.queueResponse_now (f : Frame) (x : Result) (p : List Byte) :
    (s.queueResponse f x p).now = s.now := rfl
@[simp] theorem State.queueResponse_mgmt (f : Frame) (x : Result) (p : List Byte) :
    (s.queueResponse f x p).mgmt = s.mgmt := rfl
@[simp] theorem State.queueResponse_points (f : Frame) (x : Result) (p : List Byte) :
    (s.queueResponse f x p).points = s.points := rfl
@[simp] theorem State.queueResponse_runs (f : Frame) (x : Result) (p : List Byte) :
    (s.queueResponse f x p).runs = s.runs := rfl
@[simp] theorem State.queueResponse_chain (f : Frame) (x : Result) (p : List Byte) :
    (s.queueResponse f x p).chain = s.chain := rfl
@[simp] theorem State.queueResponse_tables (f : Frame) (x : Result) (p : List Byte) :
    (s.queueResponse f x p).tables = s.tables := rfl
@[simp] theorem State.queueResponse_shifts (f : Frame) (x : Result) (p : List Byte) :
    (s.queueResponse f x p).shifts = s.shifts := rfl
@[simp] theorem State.queueResponse_batch (f : Frame) (x : Result) (p : List Byte) :
    (s.queueResponse f x p).batch = s.batch := rfl
@[simp] theorem State.queueResponse_totals (f : Frame) (x : Result) (p : List Byte) :
    (s.queueResponse f x p).totals = s.totals := rfl
@[simp] theorem State.queueResponse_tickets (f : Frame) (x : Result) (p : List Byte) :
    (s.queueResponse f x p).tickets = s.tickets := rfl
@[simp] theorem State.queueResponse_prover (f : Frame) (x : Result) (p : List Byte) :
    (s.queueResponse f x p).prover = s.prover := rfl
@[simp] theorem State.queueResponse_cond (f : Frame) (x : Result) (p : List Byte) :
    (s.queueResponse f x p).cond = s.cond := rfl
@[simp] theorem State.queueResponse_reports (f : Frame) (x : Result) (p : List Byte) :
    (s.queueResponse f x p).reports = s.reports := rfl
@[simp] theorem State.queueResponse_inbound (f : Frame) (x : Result) (p : List Byte) :
    (s.queueResponse f x p).inbound = s.inbound := rfl
@[simp] theorem State.queueResponse_forward (f : Frame) (x : Result) (p : List Byte) :
    (s.queueResponse f x p).forward = s.forward := rfl
@[simp] theorem State.queueResponse_outbound (f : Frame) (x : Result) (p : List Byte) :
    (s.queueResponse f x p).outbound = s.outbound := rfl
@[simp] theorem State.queueResponse_pending (f : Frame) (x : Result) (p : List Byte) :
    (s.queueResponse f x p).pending = s.pending := rfl

@[simp] theorem State.startFrame_held (f : Frame) (k : PreviousKind) : (s.startFrame f k).held = s.held := rfl
@[simp] theorem State.startFrame_now (f : Frame) (k : PreviousKind) : (s.startFrame f k).now = s.now := rfl
@[simp] theorem State.startFrame_mgmt (f : Frame) (k : PreviousKind) : (s.startFrame f k).mgmt = s.mgmt := rfl
@[simp] theorem State.startFrame_points (f : Frame) (k : PreviousKind) :
    (s.startFrame f k).points = s.points := rfl
@[simp] theorem State.startFrame_runs (f : Frame) (k : PreviousKind) : (s.startFrame f k).runs = s.runs := rfl
@[simp] theorem State.startFrame_chain (f : Frame) (k : PreviousKind) :
    (s.startFrame f k).chain = s.chain := rfl
@[simp] theorem State.startFrame_tables (f : Frame) (k : PreviousKind) :
    (s.startFrame f k).tables = s.tables := rfl
@[simp] theorem State.startFrame_shifts (f : Frame) (k : PreviousKind) :
    (s.startFrame f k).shifts = s.shifts := rfl
@[simp] theorem State.startFrame_batch (f : Frame) (k : PreviousKind) :
    (s.startFrame f k).batch = s.batch := rfl
@[simp] theorem State.startFrame_totals (f : Frame) (k : PreviousKind) :
    (s.startFrame f k).totals = s.totals := rfl
@[simp] theorem State.startFrame_tickets (f : Frame) (k : PreviousKind) :
    (s.startFrame f k).tickets = s.tickets := rfl
@[simp] theorem State.startFrame_prover (f : Frame) (k : PreviousKind) :
    (s.startFrame f k).prover = s.prover := rfl
@[simp] theorem State.startFrame_cond (f : Frame) (k : PreviousKind) : (s.startFrame f k).cond = s.cond := rfl
@[simp] theorem State.startFrame_reports (f : Frame) (k : PreviousKind) :
    (s.startFrame f k).reports = s.reports := rfl
@[simp] theorem State.startFrame_inbound (f : Frame) (k : PreviousKind) :
    (s.startFrame f k).inbound = s.inbound := rfl
@[simp] theorem State.startFrame_forward (f : Frame) (k : PreviousKind) :
    (s.startFrame f k).forward = s.forward := rfl
@[simp] theorem State.startFrame_responses (f : Frame) (k : PreviousKind) :
    (s.startFrame f k).responses = s.responses := rfl
@[simp] theorem State.startFrame_outbound (f : Frame) (k : PreviousKind) :
    (s.startFrame f k).outbound = { s.outbound with sending := some f, previous := k } := rfl
@[simp] theorem State.startFrame_pending (f : Frame) (k : PreviousKind) :
    (s.startFrame f k).pending = s.pending := rfl

@[simp] theorem State.withPending_held (l : List Instr) : (s.withPending l).held = s.held := rfl
@[simp] theorem State.withPending_now (l : List Instr) : (s.withPending l).now = s.now := rfl
@[simp] theorem State.withPending_mgmt (l : List Instr) : (s.withPending l).mgmt = s.mgmt := rfl
@[simp] theorem State.withPending_points (l : List Instr) : (s.withPending l).points = s.points := rfl
@[simp] theorem State.withPending_runs (l : List Instr) : (s.withPending l).runs = s.runs := rfl
@[simp] theorem State.withPending_chain (l : List Instr) : (s.withPending l).chain = s.chain := rfl
@[simp] theorem State.withPending_tables (l : List Instr) : (s.withPending l).tables = s.tables := rfl
@[simp] theorem State.withPending_shifts (l : List Instr) : (s.withPending l).shifts = s.shifts := rfl
@[simp] theorem State.withPending_batch (l : List Instr) : (s.withPending l).batch = s.batch := rfl
@[simp] theorem State.withPending_totals (l : List Instr) : (s.withPending l).totals = s.totals := rfl
@[simp] theorem State.withPending_tickets (l : List Instr) : (s.withPending l).tickets = s.tickets := rfl
@[simp] theorem State.withPending_prover (l : List Instr) : (s.withPending l).prover = s.prover := rfl
@[simp] theorem State.withPending_cond (l : List Instr) : (s.withPending l).cond = s.cond := rfl
@[simp] theorem State.withPending_reports (l : List Instr) : (s.withPending l).reports = s.reports := rfl
@[simp] theorem State.withPending_inbound (l : List Instr) : (s.withPending l).inbound = s.inbound := rfl
@[simp] theorem State.withPending_forward (l : List Instr) : (s.withPending l).forward = s.forward := rfl
@[simp] theorem State.withPending_responses (l : List Instr) :
    (s.withPending l).responses = s.responses := rfl
@[simp] theorem State.withPending_outbound (l : List Instr) : (s.withPending l).outbound = s.outbound := rfl
@[simp] theorem State.withPending_pending (l : List Instr) : (s.withPending l).pending = l := rfl

@[simp] theorem State.queueResponse_responses (f : Frame) (x : Result) (p : List Byte) :
    (s.queueResponse f x p).responses = s.responses ++
      [{ dest := f.src, tag := f.payload.getD 0 0, kind := f.payload.getD 1 0, result := x,
         payload := p }] := rfl

/-! ### Readers by run, set and slot -/

@[simp] theorem State.run_setRun_self (r : RunNo) (x : RunUnit) : (s.setRun r x).run r = x := by
  simp [State.run]

theorem State.run_setRun_of_ne {r q : RunNo} (x : RunUnit) (h : q ≠ r) :
    (s.setRun r x).run q = s.run q := by
  simp [State.run, Four.get_set_of_ne _ _ h]

@[simp] theorem State.chainOf_setChain_self (r : RunNo) (x : ChainRecord) : (s.setChain r x).chainOf r = x := by
  simp [State.chainOf]

theorem State.chainOf_setChain_of_ne {r q : RunNo} (x : ChainRecord) (h : q ≠ r) :
    (s.setChain r x).chainOf q = s.chainOf q := by
  simp [State.chainOf, Four.get_set_of_ne _ _ h]

@[simp] theorem State.tableSet_setTable_self (r : SetNo) (x : TableSet) : (s.setTable r x).tableSet r = x := by
  simp [State.tableSet]

theorem State.tableSet_setTable_of_ne {r q : SetNo} (x : TableSet) (h : q ≠ r) :
    (s.setTable r x).tableSet q = s.tableSet q := by
  simp [State.tableSet, Four.get_set_of_ne _ _ h]

@[simp] theorem State.totalsOf_setTotals_self (r : RunNo) (x : Totals) : (s.setTotals r x).totalsOf r = x := by
  simp [State.totalsOf]

theorem State.totalsOf_setTotals_of_ne {r q : RunNo} (x : Totals) (h : q ≠ r) :
    (s.setTotals r x).totalsOf q = s.totalsOf q := by
  simp [State.totalsOf, Four.get_set_of_ne _ _ h]

@[simp] theorem State.prove_setProve_self (r : RunNo) (x : ProveRecord) : (s.setProve r x).prove r = x := by
  simp [State.prove]

theorem State.prove_setProve_of_ne {r q : RunNo} (x : ProveRecord) (h : q ≠ r) :
    (s.setProve r x).prove q = s.prove q := by
  simp [State.prove, Four.get_set_of_ne _ _ h]

@[simp] theorem State.shift_setShift_self (r : RunNo) (k : SetNo) (v : Nat) :
    (s.setShift r k v).shift r k = v := by
  simp [State.shift]

theorem State.shift_setShift_other_run {r q : RunNo} (k j : SetNo) (v : Nat) (h : q ≠ r) :
    (s.setShift r k v).shift q j = s.shift q j := by
  simp [State.shift, Four.get_set_of_ne _ _ h]

theorem State.shift_setShift_other_set (r : RunNo) {k j : SetNo} (v : Nat) (h : j ≠ k) :
    (s.setShift r k v).shift r j = s.shift r j := by
  simp [State.shift, Four.get_set_of_ne _ _ h]

end Sys2Proof.Machine
end

