-- ==== Sys2Proof/Laws/Effects.lean ====
section
/-!
SUPPORT. What each shared operation can do, said once: raises, returns, notices, triggers and the ends of
proves change their own block and nothing else. A statement that a command leaves something alone goes
through these and unfolds none of them.
-/

namespace Sys2Proof.Machine

/-! ### Raises and returns -/

/-- A run of raises and returns: the condition entries and the raise sequence, and the level-3 count of the
active batch. -/
structure State.Raised (s t : State) : Prop where
  eq : t = { s with cond := t.cond, batch := t.batch }
  levels : t.cond.levels = s.cond.levels
  notices : t.cond.notices = s.cond.notices
  entries : t.cond.entries.length = s.cond.entries.length
  schedule : ∃ f : BatchEntry → BatchEntry, (∀ b, f b = { b with level3 := (f b).level3 }) ∧
    t.batch = { s.batch with schedule := s.batch.schedule.modifyHead f }

variable {s t u : State}

theorem State.Raised.held (h : s.Raised t) : t.held = s.held :=
  (congrArg State.held h.eq :)

theorem State.Raised.now (h : s.Raised t) : t.now = s.now :=
  (congrArg State.now h.eq :)

theorem State.Raised.mgmt (h : s.Raised t) : t.mgmt = s.mgmt :=
  (congrArg State.mgmt h.eq :)

theorem State.Raised.points (h : s.Raised t) : t.points = s.points :=
  (congrArg State.points h.eq :)

theorem State.Raised.runs (h : s.Raised t) : t.runs = s.runs :=
  (congrArg State.runs h.eq :)

theorem State.Raised.chain (h : s.Raised t) : t.chain = s.chain :=
  (congrArg State.chain h.eq :)

theorem State.Raised.tables (h : s.Raised t) : t.tables = s.tables :=
  (congrArg State.tables h.eq :)

theorem State.Raised.shifts (h : s.Raised t) : t.shifts = s.shifts :=
  (congrArg State.shifts h.eq :)

theorem State.Raised.totals (h : s.Raised t) : t.totals = s.totals :=
  (congrArg State.totals h.eq :)

theorem State.Raised.tickets (h : s.Raised t) : t.tickets = s.tickets :=
  (congrArg State.tickets h.eq :)

theorem State.Raised.prover (h : s.Raised t) : t.prover = s.prover :=
  (congrArg State.prover h.eq :)

theorem State.Raised.reports (h : s.Raised t) : t.reports = s.reports :=
  (congrArg State.reports h.eq :)

theorem State.Raised.inbound (h : s.Raised t) : t.inbound = s.inbound :=
  (congrArg State.inbound h.eq :)

theorem State.Raised.forward (h : s.Raised t) : t.forward = s.forward :=
  (congrArg State.forward h.eq :)

theorem State.Raised.responses (h : s.Raised t) : t.responses = s.responses :=
  (congrArg State.responses h.eq :)

theorem State.Raised.outbound (h : s.Raised t) : t.outbound = s.outbound :=
  (congrArg State.outbound h.eq :)

theorem State.Raised.pending (h : s.Raised t) : t.pending = s.pending :=
  (congrArg State.pending h.eq :)

theorem State.Raised.refl (s : State) : s.Raised s :=
  ⟨rfl, rfl, rfl, rfl, id, fun _ => rfl, by cases s.batch with | mk l _ _ => cases l <;> rfl⟩

theorem State.Raised.trans (h : s.Raised t) (g : t.Raised u) : s.Raised u := by
  obtain ⟨he, hl, hn, hc, f, hf, hs⟩ := h
  obtain ⟨ge, gl, gn, gc, f', gf, gs⟩ := g
  refine ⟨?_, gl.trans hl, gn.trans hn, gc.trans hc, f' ∘ f, fun b => ?_, ?_⟩
  · rw [ge, he]
  · simp only [Function.comp]
    rw [gf (f b), hf b]
  · rw [gs, hs]
    cases s.batch.schedule <;> rfl

theorem State.Raised.of_cond (h : t = { s with cond := t.cond }) (hl : t.cond.levels = s.cond.levels)
    (hn : t.cond.notices = s.cond.notices) (he : t.cond.entries.length = s.cond.entries.length) :
    s.Raised t := by
  have hb : t.batch = s.batch := (congrArg State.batch h :)
  refine ⟨?_, hl, hn, he, id, fun _ => rfl, ?_⟩
  · rw [hb]; exact h
  · rw [hb]; cases s.batch with | mk l _ _ => cases l <;> rfl

/-- An entry changes and nothing else does. -/
theorem State.modifyEntry_raised (s : State) (n : Nat) (f : CondEntry → CondEntry) :
    s.Raised (s.modifyEntry n f) :=
  .of_cond rfl rfl rfl (by simp [State.modifyEntry])

theorem State.returnCond_raised (s : State) (k : CondKind) (i : Nat) : s.Raised (s.returnCond k i) :=
  s.modifyEntry_raised _ _

theorem State.raiseEntry_raised (s : State) (k : CondKind) (i : Nat) : s.Raised (s.raiseEntry k i) := by
  unfold State.raiseEntry
  split
  · exact .of_cond rfl rfl rfl (by simp [State.modifyEntry])
  · exact .refl s

/-- Counting a raise of level 3 changes the active batch's count and nothing else. -/
theorem State.countLevel3_raised (s : State) (k : CondKind) : s.Raised (s.countLevel3 k) := by
  unfold State.countLevel3
  split
  · unfold State.mapActive
    split
    · exact .refl s
    · cases hs : s.batch.schedule with
      | nil => exact .refl s
      | cons b rest =>
        refine ⟨rfl, rfl, rfl, rfl, fun b => { b with level3 := saturate 65535 (b.level3 + 1) },
          fun _ => rfl, ?_⟩
        simp [State.setSchedule, hs]
  · exact .refl s

theorem State.raise_raised (s : State) (k : CondKind) (i : Nat) : s.Raised (s.raise k i) :=
  (s.raiseEntry_raised k i).trans ((s.raiseEntry k i).countLevel3_raised k)

theorem State.occur_raised (s : State) (k : CondKind) (i : Nat) : s.Raised (s.occur k i) := by
  unfold State.occur
  split
  · exact (s.raise_raised k i).trans ((s.raise k i).returnCond_raised k i)
  · exact .refl s

theorem State.follow_raised (s : State) (k : CondKind) (i : Nat) (before after : Bool) :
    s.Raised (s.follow k i before after) := by
  unfold State.follow
  split
  · exact s.raise_raised k i
  · split
    · exact s.returnCond_raised k i
    · exact .refl s

theorem State.acknowledge_raised (s : State) (n : Nat) : s.Raised (s.acknowledge n) :=
  s.modifyEntry_raised _ _

/-- Giving a run its flags writes them in its chain record; the rest is raises and returns. -/
theorem State.setFlags_raised (s : State) (r : RunNo) (new : RunFlags) :
    (s.setChain r { s.chainOf r with flags := new }).Raised (s.setFlags r new) := by
  unfold State.setFlags
  exact ((((((State.follow_raised ..).trans (State.follow_raised ..)).trans
    (State.follow_raised ..)).trans (State.follow_raised ..)).trans (State.follow_raised ..)).trans
    (State.follow_raised ..))

theorem State.setFlags_chain (s : State) (r : RunNo) (new : RunFlags) :
    (s.setFlags r new).chain = s.chain.set r { s.chainOf r with flags := new } :=
  (s.setFlags_raised r new).chain

theorem State.followRecord_raised (s : State) (slot : Nat) (before after : LiveRecord) :
    s.Raised (s.followRecord slot before after) := by
  unfold State.followRecord
  exact ((State.follow_raised ..).trans (State.follow_raised ..)).trans (State.follow_raised ..)

theorem State.returnLatched_raised (s : State) (slot : Nat) : s.Raised (s.returnLatched slot) := by
  unfold State.returnLatched
  exact ((State.returnCond_raised ..).trans (State.returnCond_raised ..)).trans
    (State.returnCond_raised ..)

theorem State.followObstacles_raised (s : State) (before : Obstacles) :
    s.Raised (s.followObstacles before) := by
  unfold State.followObstacles
  exact (State.follow_raised ..).trans (State.follow_raised ..)

/-- The acceptance records the frame's sequence and epoch in its slot; the rest is raises and returns. -/
theorem State.accept_raised (s : State) (slot : Nat) (e : MapEntry) (f : Frame) (c : Acceptance) :
    (s.setSlot slot (some { e with record := { e.record with last := some f.seqEpoch } })).Raised
      (s.accept slot e f c) := by
  unfold State.accept
  cases c
  · exact .refl _
  · exact State.occur_raised ..
  · exact .refl _
  · exact State.occur_raised ..
  · exact .refl _

/-! ### The interface detector -/

/-- A judgment moves the detector and may return INTERFACE. -/
theorem State.judge_effect (s : State) :
    ∃ d, (s.setDetector d).Raised s.judge ∧ s.judge.batch = { s.batch with detector := d } := by
  unfold State.judge
  split
  · exact ⟨_, .refl _, rfl⟩
  · exact ⟨_, .refl _, rfl⟩
  · exact ⟨_, State.returnCond_raised .., rfl⟩
  all_goals exact ⟨s.batch.detector, .refl _, rfl⟩

/-! ### Notices -/

/-- Notice events change the notices and the raise sequence and nothing else. -/
structure State.Noted (s t : State) : Prop where
  eq : t = { s with cond := t.cond }
  levels : t.cond.levels = s.cond.levels
  entries : t.cond.entries = s.cond.entries

theorem State.Noted.held (h : s.Noted t) : t.held = s.held :=
  (congrArg State.held h.eq :)

theorem State.Noted.now (h : s.Noted t) : t.now = s.now :=
  (congrArg State.now h.eq :)

theorem State.Noted.mgmt (h : s.Noted t) : t.mgmt = s.mgmt :=
  (congrArg State.mgmt h.eq :)

theorem State.Noted.points (h : s.Noted t) : t.points = s.points :=
  (congrArg State.points h.eq :)

theorem State.Noted.runs (h : s.Noted t) : t.runs = s.runs :=
  (congrArg State.runs h.eq :)

theorem State.Noted.chain (h : s.Noted t) : t.chain = s.chain :=
  (congrArg State.chain h.eq :)

theorem State.Noted.tables (h : s.Noted t) : t.tables = s.tables :=
  (congrArg State.tables h.eq :)

theorem State.Noted.shifts (h : s.Noted t) : t.shifts = s.shifts :=
  (congrArg State.shifts h.eq :)

theorem State.Noted.batch (h : s.Noted t) : t.batch = s.batch :=
  (congrArg State.batch h.eq :)

theorem State.Noted.totals (h : s.Noted t) : t.totals = s.totals :=
  (congrArg State.totals h.eq :)

theorem State.Noted.tickets (h : s.Noted t) : t.tickets = s.tickets :=
  (congrArg State.tickets h.eq :)

theorem State.Noted.prover (h : s.Noted t) : t.prover = s.prover :=
  (congrArg State.prover h.eq :)

theorem State.Noted.reports (h : s.Noted t) : t.reports = s.reports :=
  (congrArg State.reports h.eq :)

theorem State.Noted.inbound (h : s.Noted t) : t.inbound = s.inbound :=
  (congrArg State.inbound h.eq :)

theorem State.Noted.forward (h : s.Noted t) : t.forward = s.forward :=
  (congrArg State.forward h.eq :)

theorem State.Noted.responses (h : s.Noted t) : t.responses = s.responses :=
  (congrArg State.responses h.eq :)

theorem State.Noted.outbound (h : s.Noted t) : t.outbound = s.outbound :=
  (congrArg State.outbound h.eq :)

theorem State.Noted.pending (h : s.Noted t) : t.pending = s.pending :=
  (congrArg State.pending h.eq :)

theorem State.Noted.refl (s : State) : s.Noted s := ⟨rfl, rfl, rfl⟩

theorem State.Noted.trans (h : s.Noted t) (g : t.Noted u) : s.Noted u :=
  ⟨by rw [g.eq, h.eq], g.levels.trans h.levels, g.entries.trans h.entries⟩

theorem State.noticeEvent_noted (s : State) (id : NoticeId) (x : NoticeContent) :
    s.Noted (s.noticeEvent id x) := by
  unfold State.noticeEvent
  dsimp only
  split <;> exact ⟨rfl, rfl, rfl⟩

theorem noticeEvents_noted (id : NoticeId) (l : List (NoticeId × NoticeContent)) (s : State) :
    s.Noted (noticeEvents id l s) := by
  unfold noticeEvents
  generalize l.filter _ = m
  induction m generalizing s with
  | nil => exact .refl s
  | cons x m ih => exact (s.noticeEvent_noted x.1 x.2).trans (ih _)

/-- The end of an event sets its notices and nothing else. -/
theorem Work.finish_noted (w : Work) : w.state.Noted w.finish := by
  unfold Work.finish
  suffices h : ∀ (ids : List NoticeId) (s : State),
      s.Noted (ids.foldl (fun s id => noticeEvents id w.notices s) s) from h _ _
  intro ids
  induction ids with
  | nil => exact .refl
  | cons id ids ih => exact fun s => (noticeEvents_noted id w.notices s).trans (ih _)

/-! ### Triggers -/

/-- A trigger changes the Report Unit and nothing else, and no settings there. -/
structure State.Triggered (s t : State) : Prop where
  eq : t = { s with reports := t.reports }
  period : t.reports.period = s.reports.period
  timer : t.reports.timer = s.reports.timer

theorem State.Triggered.held (h : s.Triggered t) : t.held = s.held :=
  (congrArg State.held h.eq :)

theorem State.Triggered.now (h : s.Triggered t) : t.now = s.now :=
  (congrArg State.now h.eq :)

theorem State.Triggered.mgmt (h : s.Triggered t) : t.mgmt = s.mgmt :=
  (congrArg State.mgmt h.eq :)

theorem State.Triggered.points (h : s.Triggered t) : t.points = s.points :=
  (congrArg State.points h.eq :)

theorem State.Triggered.runs (h : s.Triggered t) : t.runs = s.runs :=
  (congrArg State.runs h.eq :)

theorem State.Triggered.chain (h : s.Triggered t) : t.chain = s.chain :=
  (congrArg State.chain h.eq :)

theorem State.Triggered.tables (h : s.Triggered t) : t.tables = s.tables :=
  (congrArg State.tables h.eq :)

theorem State.Triggered.shifts (h : s.Triggered t) : t.shifts = s.shifts :=
  (congrArg State.shifts h.eq :)

theorem State.Triggered.batch (h : s.Triggered t) : t.batch = s.batch :=
  (congrArg State.batch h.eq :)

theorem State.Triggered.totals (h : s.Triggered t) : t.totals = s.totals :=
  (congrArg State.totals h.eq :)

theorem State.Triggered.tickets (h : s.Triggered t) : t.tickets = s.tickets :=
  (congrArg State.tickets h.eq :)

theorem State.Triggered.prover (h : s.Triggered t) : t.prover = s.prover :=
  (congrArg State.prover h.eq :)

theorem State.Triggered.cond (h : s.Triggered t) : t.cond = s.cond :=
  (congrArg State.cond h.eq :)

theorem State.Triggered.inbound (h : s.Triggered t) : t.inbound = s.inbound :=
  (congrArg State.inbound h.eq :)

theorem State.Triggered.forward (h : s.Triggered t) : t.forward = s.forward :=
  (congrArg State.forward h.eq :)

theorem State.Triggered.responses (h : s.Triggered t) : t.responses = s.responses :=
  (congrArg State.responses h.eq :)

theorem State.Triggered.outbound (h : s.Triggered t) : t.outbound = s.outbound :=
  (congrArg State.outbound h.eq :)

theorem State.Triggered.pending (h : s.Triggered t) : t.pending = s.pending :=
  (congrArg State.pending h.eq :)

theorem State.Triggered.refl (s : State) : s.Triggered s := ⟨rfl, rfl, rfl⟩

theorem State.Triggered.trans (h : s.Triggered t) (g : t.Triggered u) : s.Triggered u :=
  ⟨by rw [g.eq, h.eq], g.period.trans h.period, g.timer.trans h.timer⟩

theorem State.trigger_triggered (s : State) (id : SnapId) : s.Triggered (s.trigger id) := by
  unfold State.trigger ReportUnit.join
  cases id <;> dsimp only <;> split <;> exact ⟨rfl, rfl, rfl⟩

theorem State.triggerAll_triggered (s : State) (x : Trigger) : s.Triggered (s.triggerAll x) := by
  unfold State.triggerAll
  generalize SnapId.all = ids
  induction ids generalizing s with
  | nil => exact .refl s
  | cons id ids ih =>
    simp only [List.foldl_cons]
    split
    · exact (s.trigger_triggered id).trans (ih _)
    · exact ih s

theorem State.reportHandOff_triggered (s : State) (r : RunNo) : s.Triggered (s.reportHandOff r) := by
  unfold State.reportHandOff
  split
  · split
    · exact s.trigger_triggered _
    · exact .refl s
  · exact .refl s

theorem State.densityHandOff_triggered (s : State) (v : Int) : s.Triggered (s.densityHandOff v) := by
  unfold State.densityHandOff
  split
  · exact s.trigger_triggered _
  · exact .refl s

/-! ### The ends of proves -/

/-- The end of a prove, and the tries of the queue after it, change the Prover Unit and nothing else, and
not its configuration. -/
structure State.Proved (s t : State) : Prop where
  eq : t = { s with prover := t.prover }
  config : t.prover.config = s.prover.config

theorem State.Proved.held (h : s.Proved t) : t.held = s.held :=
  (congrArg State.held h.eq :)

theorem State.Proved.now (h : s.Proved t) : t.now = s.now :=
  (congrArg State.now h.eq :)

theorem State.Proved.mgmt (h : s.Proved t) : t.mgmt = s.mgmt :=
  (congrArg State.mgmt h.eq :)

theorem State.Proved.points (h : s.Proved t) : t.points = s.points :=
  (congrArg State.points h.eq :)

theorem State.Proved.runs (h : s.Proved t) : t.runs = s.runs :=
  (congrArg State.runs h.eq :)

theorem State.Proved.chain (h : s.Proved t) : t.chain = s.chain :=
  (congrArg State.chain h.eq :)

theorem State.Proved.tables (h : s.Proved t) : t.tables = s.tables :=
  (congrArg State.tables h.eq :)

theorem State.Proved.shifts (h : s.Proved t) : t.shifts = s.shifts :=
  (congrArg State.shifts h.eq :)

theorem State.Proved.batch (h : s.Proved t) : t.batch = s.batch :=
  (congrArg State.batch h.eq :)

theorem State.Proved.totals (h : s.Proved t) : t.totals = s.totals :=
  (congrArg State.totals h.eq :)

theorem State.Proved.tickets (h : s.Proved t) : t.tickets = s.tickets :=
  (congrArg State.tickets h.eq :)

theorem State.Proved.cond (h : s.Proved t) : t.cond = s.cond :=
  (congrArg State.cond h.eq :)

theorem State.Proved.reports (h : s.Proved t) : t.reports = s.reports :=
  (congrArg State.reports h.eq :)

theorem State.Proved.inbound (h : s.Proved t) : t.inbound = s.inbound :=
  (congrArg State.inbound h.eq :)

theorem State.Proved.forward (h : s.Proved t) : t.forward = s.forward :=
  (congrArg State.forward h.eq :)

theorem State.Proved.responses (h : s.Proved t) : t.responses = s.responses :=
  (congrArg State.responses h.eq :)

theorem State.Proved.outbound (h : s.Proved t) : t.outbound = s.outbound :=
  (congrArg State.outbound h.eq :)

theorem State.Proved.pending (h : s.Proved t) : t.pending = s.pending :=
  (congrArg State.pending h.eq :)

theorem State.Proved.refl (s : State) : s.Proved s := ⟨rfl, rfl⟩

theorem State.Proved.trans (h : s.Proved t) (g : t.Proved u) : s.Proved u :=
  ⟨by rw [g.eq, h.eq], g.config.trans h.config⟩

theorem State.endRecord_proved (s : State) (r : RunNo) (o : ProveOutcome) (x : Option ProveResult) :
    s.Proved (s.endRecord r o x).state := ⟨rfl, rfl⟩

theorem tryQueue_proved (l : List RunNo) (s : State) : s.Proved (tryQueue l s).state := by
  induction l generalizing s with
  | nil => exact ⟨rfl, rfl⟩
  | cons r rest ih =>
    unfold tryQueue
    split
    · exact ⟨rfl, rfl⟩
    · exact (s.endRecord_proved r .notFlowing none).trans (ih _)

theorem State.tryHead_proved (s : State) : s.Proved s.tryHead.state := by
  unfold State.tryHead
  split
  · exact .refl s
  · exact tryQueue_proved _ s

theorem State.endProve_proved (s : State) (r : RunNo) (o : ProveOutcome) (x : Option ProveResult) :
    s.Proved (s.endProve r o x).state := by
  unfold State.endProve
  dsimp only
  split
  · exact (s.endRecord_proved r o x).trans (State.tryHead_proved _)
  · exact s.endRecord_proved r o x

theorem State.endAllProves_proved (s : State) : s.Proved s.endAllProves.state := by
  unfold State.endAllProves
  suffices h : ∀ (l : List RunNo) (w : Work), w.state.Proved
      (l.foldl (fun w r => w.andThen fun s =>
        if (s.prove r).state = .none then s.work else s.endRecord r .abortedDecommission none) w).state
    from h _ s.work
  intro l
  induction l with
  | nil => exact fun w => .refl w.state
  | cons r l ih =>
    intro w
    refine State.Proved.trans ?_ (ih _)
    show w.state.Proved (if (w.state.prove r).state = .none then w.state.work
      else w.state.endRecord r .abortedDecommission none).state
    split
    · exact .refl _
    · exact State.endRecord_proved ..

theorem State.gradeCheck_proved (s : State) (k : SetNo) : s.Proved (s.gradeCheck k).state := by
  unfold State.gradeCheck
  split
  · split
    · exact .refl s
    · exact s.endProve_proved _ _ _
  · exact .refl s

/-! ### Closing and opening a batch -/

/-- What the close of a batch, the opening of its successor and what follows may change: the schedule, the
tickets, the conditions, the snapshots, the proves, the device state and the runs' condition flags. -/
structure State.Closed (s t : State) : Prop where
  eq : t = { s with
    tickets := t.tickets, batch := t.batch, cond := t.cond, reports := t.reports, prover := t.prover
    chain := t.chain, mgmt := { s.mgmt with device := t.mgmt.device } }
  flags : ∀ r, t.chainOf r = { s.chainOf r with flags := (t.chainOf r).flags }
  tickets : ∃ more, t.tickets = s.tickets ++ more

theorem State.Closed.held (h : s.Closed t) : t.held = s.held :=
  (congrArg State.held h.eq :)

theorem State.Closed.now (h : s.Closed t) : t.now = s.now :=
  (congrArg State.now h.eq :)

theorem State.Closed.points (h : s.Closed t) : t.points = s.points :=
  (congrArg State.points h.eq :)

theorem State.Closed.runs (h : s.Closed t) : t.runs = s.runs :=
  (congrArg State.runs h.eq :)

theorem State.Closed.tables (h : s.Closed t) : t.tables = s.tables :=
  (congrArg State.tables h.eq :)

theorem State.Closed.shifts (h : s.Closed t) : t.shifts = s.shifts :=
  (congrArg State.shifts h.eq :)

theorem State.Closed.totals (h : s.Closed t) : t.totals = s.totals :=
  (congrArg State.totals h.eq :)

theorem State.Closed.inbound (h : s.Closed t) : t.inbound = s.inbound :=
  (congrArg State.inbound h.eq :)

theorem State.Closed.forward (h : s.Closed t) : t.forward = s.forward :=
  (congrArg State.forward h.eq :)

theorem State.Closed.responses (h : s.Closed t) : t.responses = s.responses :=
  (congrArg State.responses h.eq :)

theorem State.Closed.outbound (h : s.Closed t) : t.outbound = s.outbound :=
  (congrArg State.outbound h.eq :)

theorem State.Closed.pending (h : s.Closed t) : t.pending = s.pending :=
  (congrArg State.pending h.eq :)

theorem State.Closed.refl (s : State) : s.Closed s := ⟨rfl, fun _ => rfl, [], by simp⟩

theorem State.Closed.trans (h : s.Closed t) (g : t.Closed u) : s.Closed u := by
  refine ⟨?_, fun r => ?_, ?_⟩
  · conv_lhs => rw [g.eq, h.eq]
  · rw [g.flags r, h.flags r]
  · obtain ⟨x, hx⟩ := h.tickets
    obtain ⟨y, hy⟩ := g.tickets
    exact ⟨x ++ y, by rw [hy, hx, List.append_assoc]⟩

theorem State.Raised.toClosed (h : s.Raised t) : s.Closed t := by
  refine ⟨?_, fun r => ?_, [], by simp [h.tickets]⟩
  · rw [h.tickets, h.reports, h.prover, h.chain, h.mgmt]; exact h.eq
  · simp [State.chainOf, h.chain]

theorem State.Triggered.toClosed (h : s.Triggered t) : s.Closed t := by
  refine ⟨?_, fun r => ?_, [], by simp [h.tickets]⟩
  · rw [h.tickets, h.batch, h.cond, h.prover, h.chain, h.mgmt]; exact h.eq
  · simp [State.chainOf, h.chain]

theorem State.Proved.toClosed (h : s.Proved t) : s.Closed t := by
  refine ⟨?_, fun r => ?_, [], by simp [h.tickets]⟩
  · rw [h.tickets, h.batch, h.cond, h.reports, h.chain, h.mgmt]; exact h.eq
  · simp [State.chainOf, h.chain]

theorem State.batch_closed (s : State) (b : BatchUnit) : s.Closed { s with batch := b } :=
  ⟨rfl, fun _ => rfl, [], by simp⟩

theorem State.setFlags_closed (s : State) (r : RunNo) (new : RunFlags) : s.Closed (s.setFlags r new) := by
  refine State.Closed.trans ?_ (s.setFlags_raised r new).toClosed
  refine ⟨rfl, fun q => ?_, [], by simp⟩
  by_cases hq : q = r
  · subst hq; simp [State.chainOf]
  · simp [State.chainOf, Four.get_set_of_ne _ _ hq]

theorem clearFlags_closed (l : List RunNo) (s : State) :
    s.Closed (l.foldl (fun s r => s.setFlags r .clear) s) := by
  induction l generalizing s with
  | nil => exact .refl s
  | cons r l ih => exact (s.setFlags_closed r .clear).trans (ih _)

theorem State.judge_closed (s : State) : s.Closed s.judge := by
  obtain ⟨d, h, -⟩ := s.judge_effect
  exact (s.batch_closed _).trans h.toClosed

theorem State.detectorAfresh_closed (s : State) : s.Closed s.detectorAfresh := by
  unfold State.detectorAfresh
  dsimp only
  split
  · exact ((s.returnCond_raised .interface 1).toClosed.trans (State.batch_closed _ _)).trans
      (State.judge_closed _)
  · exact (State.batch_closed _ _).trans (State.judge_closed _)

theorem State.openHead_closed (s : State) : s.Closed s.openHead.state := by
  unfold State.openHead
  split
  · exact .refl s
  · exact ((s.batch_closed _).trans (State.detectorAfresh_closed _)).trans
      (State.triggerAll_triggered _ _).toClosed

theorem State.gradeCheck_closed (s : State) (k : SetNo) : s.Closed (s.gradeCheck k).state :=
  (s.gradeCheck_proved k).toClosed

theorem State.decommissionComplete_closed (s : State) : s.Closed s.decommissionComplete.state := by
  unfold State.decommissionComplete
  dsimp only [Work.andThen, Work.map, Work.note, Work.setDevice, State.work]
  refine State.Closed.trans (t := State.triggerAll (State.detectorAfresh
    (Num4.all.foldl (fun s r => s.setFlags r .clear)
      { s with mgmt := { s.mgmt with device := .uncommissioned } })) .batchChange) ?_ ?_
  · refine State.Closed.trans ?_ (State.triggerAll_triggered _ _).toClosed
    refine State.Closed.trans ?_ (State.detectorAfresh_closed _)
    refine State.Closed.trans (t := { s with mgmt := { s.mgmt with device := .uncommissioned } })
      ⟨rfl, fun _ => rfl, [], by simp⟩ ?_
    exact clearFlags_closed _ _
  · split
    · exact (State.endProve_proved ..).toClosed
    · exact .refl _

/-- A completion: one ticket joins the store, and what follows stays within `Closed`. -/
theorem State.completeClose_closed (s : State) (cause : CloseCause) (mark : Bool) :
    s.Closed (s.completeClose cause mark).state := by
  unfold State.completeClose
  split
  · exact .refl s
  · rename_i a rest _
    have h : s.Closed ((({ s with tickets := s.tickets ++ [s.makeTicket a cause] }).setSchedule rest
        |>.returnCond .overTarget 1).returnCond .ticketStoreFull 1) := by
      refine State.Closed.trans (t := ({ s with tickets := s.tickets ++ [s.makeTicket a cause] }
        ).setSchedule rest) ⟨rfl, fun _ => rfl, [s.makeTicket a cause], rfl⟩ ?_
      exact ((State.returnCond_raised ..).trans (State.returnCond_raised ..)).toClosed
    dsimp only [Work.andThen, Work.map, Work.note, State.work]
    split
    · exact h.trans (State.decommissionComplete_closed _)
    · split
      · exact ((h.trans (State.batch_closed _ _)).trans (State.openHead_closed _)).trans
          (State.gradeCheck_closed _ _)
      · exact (h.trans (State.openHead_closed _)).trans (State.gradeCheck_closed _ _)

theorem State.mapActive_closed (s : State) (f : BatchEntry → BatchEntry) : s.Closed (s.mapActive f) := by
  unfold State.mapActive
  split
  · exact .refl s
  · split
    · exact .refl s
    · exact s.batch_closed _

theorem State.beginClose_closed (s : State) (cause : CloseCause) :
    s.Closed (s.beginClose cause).work.state := by
  unfold State.beginClose
  split
  · exact .refl s
  · dsimp only
    split
    · exact .refl s
    · split
      · exact s.completeClose_closed ..
      · exact (s.mapActive_closed _).trans (State.followObstacles_raised ..).toClosed

theorem State.retestClose_closed (s : State) (before : Obstacles) :
    s.Closed (s.retestClose before).work.state := by
  unfold State.retestClose
  split
  · exact .refl s
  · split
    · exact .refl s
    · split
      · exact s.completeClose_closed ..
      · exact (State.followObstacles_raised ..).toClosed

theorem State.targetCheck_closed (s : State) : s.Closed s.targetCheck.state := by
  unfold State.targetCheck
  split
  · exact .refl s
  · split
    · exact .refl s
    · split
      · exact s.beginClose_closed _
      · exact .refl s

/-! ### The close of a run -/

/-- A run's close leaves its residues, rate and factors, and every other run. -/
theorem State.closeRun_effect (s : State) (r : RunNo) :
    (s.closeRun r).state.runs =
      s.runs.set r { s.run r with state := .closed, closePending := false, closeTimer := none } ∧
    (s.closeRun r).state.chain = s.chain.set r { s.chainOf r with
      flags := { RunFlags.clear with flowingClosed := (s.chainOf r).flags.flowingClosed } } ∧
    (s.closeRun r).state =
      { s with
        runs := (s.closeRun r).state.runs, chain := (s.closeRun r).state.chain
        cond := (s.closeRun r).state.cond, batch := (s.closeRun r).state.batch
        prover := (s.closeRun r).state.prover } := by
  set a := s.setRun r { s.run r with state := .closed, closePending := false, closeTimer := none }
  have h : (a.setChain r { a.chainOf r with
      flags := { RunFlags.clear with flowingClosed := (a.chainOf r).flags.flowingClosed } }).Raised
      (a.clearMeteringFlags r) := a.setFlags_raised r _
  have hp : (a.clearMeteringFlags r).Proved (s.closeRun r).state := by
    unfold State.closeRun
    dsimp only
    split
    · exact State.endProve_proved ..
    · exact .refl _
  refine ⟨hp.runs.trans h.runs, hp.chain.trans h.chain, ?_⟩
  rw [hp.runs.trans h.runs, hp.chain.trans h.chain, hp.cond, hp.batch]
  conv_lhs => rw [hp.eq, h.eq]
  rfl

/-! ### The inbound FIFO and the outbound port -/

/-- An arriving frame changes the FIFO; the rest is raises and returns. -/
theorem State.arrive_effect (s : State) (f : Frame) :
    ∃ l, (s.setFifo l).Raised (s.arrive f) := by
  unfold State.arrive
  dsimp only
  split
  · exact ⟨_, .refl _⟩
  · split
    · exact ⟨s.inbound.fifo, State.occur_raised ..⟩
    · exact ⟨s.inbound.fifo, State.occur_raised ..⟩
    · split
      · exact ⟨_, State.occur_raised ..⟩
      · exact ⟨s.inbound.fifo, State.occur_raised ..⟩

/-- A selection changes the outbound port and its sources: the Forward Queue, the Report Unit, the response
queue and what is pending in the condition table. -/
theorem State.select_effect (s : State) :
    s.select = { s with
      forward := s.select.forward, responses := s.select.responses, reports := s.select.reports
      cond := s.select.cond, outbound := s.select.outbound } := by
  unfold State.select
  split
  · split
    · rename_i i x _
      cases x
      · unfold State.startSource; dsimp only; split <;> rfl
      · unfold State.startSource; dsimp only
        split
        · rfl
        · rename_i id rest _; cases id <;> rfl
      · unfold State.startSource; dsimp only; split <;> rfl
      · unfold State.startSource; dsimp only
        split
        · rfl
        · rename_i x _; cases x <;> rfl
      · rfl
    · unfold State.idleOrWait; split <;> rfl
  · rfl

end Sys2Proof.Machine
end

