-- ==== Sys2Proof/Laws/Formats.lean ====
section
/-!
SUPPORT. The widths of what a payload carries (R183): a field fills its width, present or absent, and every
structure that stands behind one presence byte has the width its absence is padded to.
-/

namespace Sys2Proof.Machine

@[simp] theorem bigEndian_length (w v : Nat) : (bigEndian w v).length = w := by
  induction w with
  | zero => rfl
  | succ w ih => simp [bigEndian, ih]

@[simp] theorem unfit_length (w : Nat) (v : Int) : (unfit w v).length = w := by simp [unfit]

@[simp] theorem field_length (w v : Nat) : (field w v).length = w := by
  unfold field; split <;> simp

@[simp] theorem signedField_length (w : Nat) (v : Int) : (signedField w v).length = w := by
  unfold signedField; split <;> simp

@[simp] theorem byte_length (n : Nat) : (byte n).length = 1 := field_length 1 n

@[simp] theorem flag_length (b : Bool) : (flag b).length = 1 := rfl

/-- An optional field has one width, present or absent, where its encoding has the width it is padded to. -/
theorem optional_length {α : Type} {w : Nat} {enc : α → List Byte} (h : ∀ a, (enc a).length = w)
    (o : Option α) : (optional w enc o).length = w + 1 := by
  cases o <;> simp [optional, h]

@[simp] theorem optional_field_length {α : Type} (w : Nat) (v : α → Nat) (o : Option α) :
    (optional w (fun a => field w (v a)) o).length = w + 1 := optional_length (fun _ => by simp) o

@[simp] theorem optional_number_length (w : Nat) (o : Option Nat) :
    (optional w (field w) o).length = w + 1 := optional_length (fun _ => by simp) o

@[simp] theorem optional_signed_length (w : Nat) (o : Option Int) :
    (optional w (signedField w) o).length = w + 1 := optional_length (fun _ => by simp) o

@[simp] theorem optional_byte_length {α : Type} (v : α → Nat) (o : Option α) :
    (optional 1 (fun a => byte (v a)) o).length = 2 := optional_length (fun _ => by simp) o

@[simp] theorem optional_small_length (o : Option Nat) : (optional 1 byte o).length = 2 :=
  optional_length (fun _ => by simp) o

/-! ### What stands behind one presence byte -/

theorem ProverConfig.bytes_length (c : ProverConfig) : c.bytes.length = 38 := by simp [ProverConfig.bytes]

theorem PassRecord.bytes_length (p : PassRecord) : p.bytes.length = 11 := by simp [PassRecord.bytes]

theorem ProveResult.bytes_length (x : ProveResult) : x.bytes.length = 23 := by simp [ProveResult.bytes]

theorem LastOutcome.bytes_length (l : LastOutcome) : l.bytes.length = 33 := by
  simp [LastOutcome.bytes, optional_length ProveResult.bytes_length]

theorem Factors.bytes_length (f : Factors) : f.bytes.length = 16 := by simp [Factors.bytes]

theorem Averages.bytes_length (a : Averages) : a.bytes.length = 24 := by simp [Averages.bytes]

theorem ClosePending.bytes_length (c : ClosePending) (o : Obstacles) : (c.bytes o).length = 9 := by
  simp [ClosePending.bytes]

@[simp] theorem State.timerBytes_length (s : State) (timer : Option Nat) :
    (s.timerBytes timer).length = 5 := by simp [State.timerBytes]

@[simp] theorem LiveRecord.commonBytes_length (rec : LiveRecord) : rec.commonBytes.length = 5 := by
  simp [LiveRecord.commonBytes]

/-- A live value record fills the width that an unmapped role is padded to (R24). -/
theorem State.recordBytes_length (s : State) (role : Role) (rec : LiveRecord) :
    (s.recordBytes role rec).length = role.recordWidth := by
  cases role <;> simp [State.recordBytes, Role.recordWidth]

/-! ### Whole payloads of one width -/

/-- A snapshot frame has the payload length of R184: the status summary, slot and count are 4 bytes. -/
theorem RunSnapshot.fields_length (x : RunSnapshot) : x.fields.length = 67 := by
  simp [RunSnapshot.fields, InUse.bytes, optional_length Factors.bytes_length,
    optional_length (enc := fun v : BatchVolumes => signedField 8 v.gsv ++ signedField 8 v.nsv) (w := 16)
      (fun _ => by simp)]

theorem HeaderSnapshot.fields_length (x : HeaderSnapshot) : x.fields.length = 33 := by
  simp [HeaderSnapshot.fields, InUse.bytes,
    optional_length (enc := fun v : Nat => signedField 8 v) (w := 8) (fun _ => by simp)]

/-- The fields of READ_PROVE for a run fill one width but for the pass window (R138, R183). -/
theorem State.activeFields_length (s : State) (set : Option SetNo) (rho count timer : Option Nat)
    (window : List PassRecord) :
    (s.activeFields set rho count timer window).length = 15 + 11 * window.length := by
  have hw : ∀ l : List PassRecord, (l.flatMap PassRecord.bytes).length = 11 * l.length := fun l => by
    induction l with
    | nil => rfl
    | cons p l ih => simp [ih, PassRecord.bytes_length]; omega
  have ht : (optional 4 s.remainingBytes timer).length = 5 :=
    optional_length (fun _ => by simp [State.remainingBytes]) timer
  simp [State.activeFields, hw, ht]
  omega

theorem State.pendingBytes_length (s : State) (p : ProveState) : (s.pendingBytes p).length = 29 := by
  have hx : ∀ o : Option ProveResult, (optional 23 ProveResult.bytes o).length = 24 :=
    optional_length ProveResult.bytes_length
  have ht : ∀ o : Option Nat, (optional 4 s.remainingBytes o).length = 5 :=
    optional_length (fun _ => by simp [State.remainingBytes])
  cases p <;> simp [State.pendingBytes, hx, ht]

end Sys2Proof.Machine
end

