-- ==== Sys2Proof/Laws/Requests.lean ====
section
/-!
SUPPORT. What the dispatch of a request and of a sample frame does, said once: every statement about a
request row or a sample row goes through these.
-/

namespace Sys2Proof.Machine

variable {s : State} {f : Frame} {k : Nat} {p : List Byte}

theorem fifo_eq_of_head? {l : List Frame} (h : l.head? = some f) : ∃ rest, l = f :: rest := by
  cases l with
  | nil => cases h
  | cons x rest => exact ⟨rest, by simpa using h⟩

theorem Frame.params_of_body (h : f.payload.drop 1 = BitVec.ofNat 8 k :: p) : f.params = p := by
  have : f.payload.drop 2 = (f.payload.drop 1).drop 1 := by simp
  simp [Frame.params, this, h]

theorem Frame.requestKind_of_body (h : f.payload.drop 1 = BitVec.ofNat 8 k :: p) :
    f.requestKind = k % 256 := by
  simp [Frame.requestKind, natAt, slice, h, natOf]

theorem State.headRequest_of_requests (h : s.Requests k f p) : s.headRequest = some f := by
  obtain ⟨-, hhead, hown, hkind, hbody, hroom⟩ := h
  obtain ⟨rest, hfifo⟩ := fifo_eq_of_head? hhead
  have hlen : 2 ≤ f.payload.length := by
    have := congrArg List.length hbody
    simp at this
    omega
  simp [State.headRequest, hfifo, State.isRequest, hown, hkind, hlen, hroom]

/-- A request of a kind is answered by its owner on its parameters, or BAD_LENGTH where they have not its
length. -/
theorem State.request_of_requests (h : s.Requests k f p) (hk : k < 256)
    (owner : List Byte → State → Answer) :
    s.request k owner =
      (if lengthFits k p then owner p s.popHead else s.popHead.refuse .badLength).conclude f := by
  have hh := State.headRequest_of_requests h
  obtain ⟨hheld, -, -, -, hbody, -⟩ := h
  have hkind : f.requestKind = k := by
    rw [Frame.requestKind_of_body hbody, Nat.mod_eq_of_lt hk]
  simp [State.request, State.dispatchRequest, State.whenRunning, hheld, hh, hkind,
    Frame.params_of_body hbody]

/-- A change that makes no notice event ends as it stands. -/
@[simp] theorem Work.finish_work (s : State) : s.work.finish = s := rfl

@[simp] theorem State.conclude_refuse (s : State) (r : Result) (f : Frame) :
    (s.refuse r).conclude f = s.queueResponse f r [] := rfl

@[simp] theorem State.conclude_report (s : State) (b : List Byte) (f : Frame) :
    (s.report b).conclude f = s.queueResponse f .done b := rfl

@[simp] theorem State.conclude_answerDone (s : State) (b : List Byte) (f : Frame) :
    (s.answerDone b).conclude f = s.queueResponse f .done b := rfl

@[simp] theorem Work.conclude_done (w : Work) (b : List Byte) (f : Frame) :
    (w.done b).conclude f = w.finish.queueResponse f .done b := rfl

@[simp] theorem Work.conclude_pendingAnswer (w : Work) (b : List Byte) (f : Frame) :
    (w.pendingAnswer b).conclude f = w.finish.queueResponse f .pending b := rfl

/-- A sample frame of a mapped point that is not discarded: its sequence and epoch are recorded, what its
classification raises is raised, and the point uses it. -/
theorem State.dispatchSample_of_samples {kind : Byte} {slot : Nat} {e : MapEntry}
    (h : s.Samples kind f slot e) (hc : classify e.record.last f.seqEpoch ≠ .discarded)
    (use : Frame → Nat → MapEntry → Acceptance → State → Work) :
    s.dispatchSample kind use =
      (use f slot { e with record := { e.record with last := some f.seqEpoch } }
        (classify e.record.last f.seqEpoch)
        (s.popHead.accept slot e f (classify e.record.last f.seqEpoch))).finish := by
  obtain ⟨hheld, hhead, hown, hkind, hlen, hentry⟩ := h
  obtain ⟨rest, hfifo⟩ := fifo_eq_of_head? hhead
  simp only [State.dispatchSample, State.whenRunning, hheld, hfifo, hkind, hlen, hown, hentry]
  cases hq : classify e.record.last f.seqEpoch <;> simp_all

/-- A frame that the acceptance test discards leaves the FIFO and changes nothing else (R5). -/
theorem State.dispatchSample_discarded {kind : Byte} {slot : Nat} {e : MapEntry}
    (h : s.Samples kind f slot e) (hc : classify e.record.last f.seqEpoch = .discarded)
    (use : Frame → Nat → MapEntry → Acceptance → State → Work) :
    s.dispatchSample kind use = s.popHead := by
  obtain ⟨hheld, hhead, hown, hkind, hlen, hentry⟩ := h
  obtain ⟨rest, hfifo⟩ := fifo_eq_of_head? hhead
  simp [State.dispatchSample, State.whenRunning, hheld, hfifo, hkind, hlen, hown, hentry, hc]

end Sys2Proof.Machine
end

