-- ==== Sys2Proof/WellFormed.lean ====
section
/-!
DEFINITION. Which commands name something the part has. The only operand with a range of its own is a
point map slot, 1 … 15 (R1); every other operand is of a type that holds nothing else.
-/

namespace Sys2Proof.Instr

/-- A slot of the point map is numbered 1 … 15 (R1). -/
def slotInRange (slot : Nat) : Bool := decide (1 ≤ slot ∧ slot ≤ 15)

/-- A command is well formed when the slot it names exists. -/
def wellFormed : Instr → Bool
  | .staleTimerExpiry slot => slotInRange slot
  | .holdTimerExpiry slot => slotInRange slot
  | .powerOnReset | .resetEnd _ _ | .receptionStart | .frameEnd _ | .forwardDispatch
  | .pulseFrame | .valueFrame | .passFrame | .triggerFrame | .invalidOwnFrame
  | .closeTimerExpiry _ | .interfaceTimerExpiry | .passTimerExpiry | .acceptTimerExpiry _
  | .reportPeriodExpiry | .idleIntervalReached | .stationTimeAdvance
  | .downstreamReadyChange _ | .transmissionStart | .transmissionComplete | .unknownRequest
  | .mapPoint | .unmapPoint | .configureRun | .configureHeader | .setRunServiceOpen
  | .setRunServiceClose | .readLive | .beginLoad | .loadSegment | .commitSet | .discardSet
  | .readSetInfo | .queueBatch | .cancelBatch | .closeBatch | .amendTarget | .readSchedule
  | .readTicket | .releaseTicket | .readTotals | .seedTotals | .configureProver
  | .requestProve | .cancelProve | .acceptProve | .rejectProve | .readProve | .clearShift
  | .ackConditions | .setLevels | .readConditions | .setInboundPolicy | .setSlotPlan
  | .setReporting | .commission | .decommission | .restart | .setTime | .readStatus => true

end Sys2Proof.Instr
end

