-- ==== Sys2Proof/Tests/Slice0.lean ====
section
/-!
SUPPORT. Tests of one step each, their expected values from the worked figures of the data sheet, and for
each statement of Certificates/Slice0 with hypotheses a named witness that meets them all, clause by clause
at the ends of its ranges.
-/

namespace Sys2Proof.Tests

open Sys2Proof.Machine

set_option Elab.async false

/-! ### The part of the worked example -/

/-- The state that a command leads to. -/
def after (c : Instr) (s : State) : Option State :=
  match exec c s with
  | .next t => some t
  | .fault _ => none
  | .refused _ => none

/-- Out of reset at node 5. -/
def ready : State :=
  { State.reset with held := false, mgmt := { State.reset.mgmt with nodeAddress := 5 } }

/-- A frame at the head of the inbound FIFO. -/
def withHead (s : State) (f : Frame) : State := { s with inbound := { s.inbound with fifo := [f] } }

/-- A request with tag 7 to node 5. -/
def req (kind : Nat) (p : List Byte) : Frame := ⟨5, 0, kindRequest, 7 :: BitVec.ofNat 8 kind :: p, 0⟩

/-- A request at the head. -/
def asks (s : State) (kind : Nat) (p : List Byte) : State := withHead s (req kind p)

/-- A sample frame to node 5. -/
def sample (kind : Byte) (p : List Byte) : Frame := ⟨5, 9, kind, p, 0⟩

/-- The curve of run 1 (Figure 2-2). -/
def curve1 : List CurvePoint := [⟨2000000, 1000400⟩, ⟨3000000, 1000900⟩, ⟨4000000, 1001300⟩]

/-- The curve of run 2 (Figure 2-2). -/
def curve2 : List CurvePoint :=
  [⟨1000000, 999900⟩, ⟨1500000, 999800⟩, ⟨2500000, 999650⟩, ⟨3500000, 999720⟩, ⟨4500000, 999910⟩]

/-- The six cells of set 1 that Figure 2-2 gives, and the curves. -/
def set1 : TableSet :=
  { state := .committed, sizes := some ⟨3, 2⟩, tempAxis := some [3000, 3500, 6000]
    densAxis := some [85000, 87000]
    rows := [some [⟨987400, 760⟩, ⟨983100, 790⟩, ⟨966200, 905⟩],
             some [⟨987700, 720⟩, ⟨983500, 748⟩, ⟨966900, 858⟩]]
    curves := ⟨.curve curve1, .curve curve2, .noCurve, .noCurve⟩, signature := some 0x3E7A91C4 }

/-- A record in GOOD with sequence 1 of epoch 1. -/
def good (v : Int) : LiveRecord :=
  { quality := .good, last := some ⟨1, 1⟩, value := some v, clamped := false, aboveHigh := false,
    staleTimer := some 5000, holdTimer := none, base := none, lastPass := none }

/-- A PULSE record with baselines. -/
def counting : LiveRecord :=
  { quality := .good, last := some ⟨1, 1⟩, value := none, clamped := false, aboveHigh := false,
    staleTimer := none, holdTimer := none, base := some ⟨100, 100, 0⟩, lastPass := none }

/-- The point map: run 1's three points, water, density and the prover. -/
def map1 : List (Option MapEntry) :=
  [some ⟨10, .pulse .n1, counting⟩, some ⟨11, .runTemp .n1, good 3240⟩,
   some ⟨12, .runPres .n1, good 14500⟩, some ⟨13, .headerWater, good 1800⟩,
   some ⟨14, .headerDens, good 86000⟩, some ⟨15, .prover, { counting with base := none, lastPass := some 1 }⟩,
   none, none, none, none, none, none, none, none, none]

/-- Run 1 of the worked example. -/
def run1 : RunUnit :=
  { RunUnit.powerOn with
    config := { RunConfig.preset with kmilli := some 2400000, cutoff := 500000, maxRate := 4500000 }
    configured := true, state := .metering }

/-- Batch 58 on set 1 at a base density of 86,250. -/
def batch58 : BatchEntry :=
  { nomination := 4101, set := .n1, rho := 86250, window := none, target := none,
    closeOnInterface := false, seq := some 58, openTime := 0, openValid := false,
    records := .const .zero, proves := [], further := 0, level3 := 0, closing := none }

/-- An entry behind it. -/
def queued4102 : BatchEntry := { batch58 with nomination := 4102, seq := none }

/-- The prover configuration of Figure 6-2. -/
def prover62 : ProverConfig :=
  { baseVolume := 4000000000, alphaT := 33500, betaP := 12, tref := 1500, passes := 5, maxPasses := 15,
    tolerance := 500, autoLimit := 50, passTimeout := 300, acceptTimeout := 3600 }

/-- The part of section 3.15: MEASURING batch 58, run 1 METERING. -/
def metering : State :=
  { ready with
    mgmt := { ready.mgmt with device := .measuring }
    points := { ready.points with map := map1 }
    runs := ready.runs.set .n1 run1
    chain := ready.chain.set .n1 { ChainRecord.powerOn with lastRate := some 3705000 }
    tables := ready.tables.set .n1 set1
    batch := { schedule := [batch58], counter := 58, detector := .inside }
    prover := { ready.prover with config := some prover62 } }

/-- The same with run 1 in another state. -/
def metering.withRun (u : RunUnit) : State := { metering with runs := metering.runs.set .n1 u }

/-- The same while UNCOMMISSIONED, its batch a queued entry. -/
def resting : State :=
  { metering with
    mgmt := ready.mgmt, batch := { metering.batch with schedule := [{ batch58 with seq := none }] } }

/-- The same with batch 58 replaced. -/
def metering.withBatch (b : BatchEntry) : State :=
  { metering with batch := { metering.batch with schedule := [b] } }

/-- Batch 58 with 4102 behind it. -/
def two : State := { metering with batch := { metering.batch with schedule := [batch58, queued4102] } }

/-- The same with a prove of run 1 in a state. -/
def metering.withProve (x : ProveState) : State := metering.setProve .n1 ⟨x, none⟩

/-- Run 1 on the prover and run 2 behind it. -/
def proving : State :=
  ((metering.withProve (.active .n1 86250 0 [] 300000)).setProve .n2 ⟨.queued, none⟩).setProveQueue [.n2]

/-- The PULSE frame of Figure 3-3: 1,235 pulses in half a second. -/
def pulse2 : Frame := sample kindPulse [10, 1, 2, 0, 0, 5, 55, 0, 0, 5, 55, 0, 7, 161, 32]

/-- A VALUE frame of a point with sequence 2. -/
def value2 (point status : Byte) (v : List Byte) : Frame := sample kindValue (point :: 1 :: 2 :: status :: v)

/-- The PASS frame of Figure 6-2 with a pass number and a status. -/
def pass2 (number status : Byte) : Frame :=
  sample kindPass [15, 1, 2, number, 0, 146, 93, 106, 0, 0, 12, 188, 0, 0, 53, 232, status]

/-- A small ticket of a batch. -/
def ticketOf (seq : Nat) : Ticket := { State.reset.makeTicket batch58 .request with seq := seq }

/-! ### Well-formedness -/

theorem test_slot_below_the_map_is_ill_formed : (Instr.staleTimerExpiry 0).wellFormed = false := by decide

theorem test_slot_above_the_map_is_ill_formed : (Instr.holdTimerExpiry 16).wellFormed = false := by decide

theorem test_last_slot_is_well_formed : (Instr.holdTimerExpiry 15).wellFormed = true := by decide

/-! ### Codes, lookups and arithmetic -/

/-- The check value of R185. -/
theorem test_crc16_check_value : crc16 [49, 50, 51, 52, 53, 54, 55, 56, 57] = 0x29B1 := by decide +kernel

/-- The check value of R34 (section 11.6). -/
theorem test_crc32_check_value : crc32 [49, 50, 51, 52, 53, 54, 55, 56, 57] = 0xCBF43926 := by
  decide +kernel

/-- Figure 2-3 and Figure 2-4, the curves. -/
theorem test_curve_lookups :
    curveLookup (.curve curve1) 3705000 = ⟨1001182, false, false⟩ ∧
    curveLookup (.curve curve1) 1500000 = ⟨1000400, false, true⟩ ∧
    curveLookup (.curve curve1) 4000000 = ⟨1001300, false, false⟩ ∧
    curveLookup (.curve curve1) 4600000 = ⟨1001300, false, true⟩ ∧
    curveLookup (.curve curve2) 1750000 = ⟨999762, false, false⟩ := by decide

/-- Figure 2-3 and Figure 2-4, the grid. -/
theorem test_grid_lookups :
    gridLookup set1 3240 86250 = ⟨985554, 748, false⟩ ∧
    gridLookup set1 3000 85000 = ⟨987400, 760, false⟩ ∧
    gridLookup set1 6350 86250 = ⟨966638, 876, true⟩ := by decide

/-- Figure 3-2, the last two cases. -/
theorem test_meter_factor_is_clamped :
    clampMf (applyPpm 1190000 1050000) = 1200000 ∧ clampMf (applyPpm 805000 950000) = 800000 := by decide

/-- Figure 3-5, the third frame. -/
theorem test_residues_complete_a_millilitre :
    increments { ChainRecord.powerOn with ivRes := 1600000, gsvRes := 853974, nsvRes := 123600, massRes := 77500 }
      2400000 1235 987789 1800 86250 = ⟨514584, 508301, 507386, 438410⟩ := by decide

/-- Figure 5-1, the first frame. -/
theorem test_totalizer_rolls_over : addTotal 9999999999800000 507384 = 307384 := by decide

/-- Figure 6-2. -/
theorem test_pass_of_run_1 :
    metering.passRecord .n1 .n1 86250 prover62 (pass2 1 0).pass =
      some ⟨1, 1001201, 3705000, false, true⟩ := by decide +kernel

/-- R140's table at its block ends. -/
theorem test_entries_of_the_condition_table :
    kindOfEntry 90 = .valueClamped ∧ kindOfEntry 91 = .pulseMismatch ∧ kindOfEntry 114 = .oosFlow ∧
    kindOfEntry 121 = .strayPass ∧ CondKind.seqGap.entry 5 = 5 ∧ CondKind.pulseMismatch.entry 2 = 92 := by
  decide

/-! ### One step of each family -/

/-- Figure 3-4: the totalizers, the residues and the last factors. -/
theorem test_pulse_frame_books :
    (after .pulseFrame (withHead metering pulse2)).map
        (fun t => (t.totalsOf .n1, (t.chainOf .n1).ivRes, (t.chainOf .n1).lastFactors)) =
      some (⟨514583, 508299, 507384, 438407⟩, 800000, some ⟨1001182, 985554, 1001085, 987789⟩) := by
  decide +kernel

/-- R52: the frame of a CLOSED run is counted, and raises OOS_FLOW. -/
theorem test_pulse_frame_of_a_closed_run :
    (after .pulseFrame (withHead (metering.withRun { run1 with state := .closed }) pulse2)).map
        (fun t => ((t.run .n1).unbooked, (t.entry 111).state, t.totalsOf .n1)) =
      some (1235, .activeUnack, ⟨0, 0, 0, 0⟩) := by decide +kernel

/-- R10: a temperature of 160.00 °C is taken as the configured 150.00 °C and marked clamped. -/
theorem test_value_frame_is_clamped :
    (after .valueFrame (withHead metering (value2 11 0 [0, 0, 62, 128]))).map
        (fun t => ((t.tempInUse .n1).value, (t.tempInUse .n1).clamped, (t.entry 77).state)) =
      some (15000, true, .activeUnack) := by decide +kernel

/-- R11: a FAULT holds the value. -/
theorem test_value_frame_with_a_fault :
    (after .valueFrame (withHead metering (value2 11 1 [0, 0, 0, 0]))).map
        (fun t => ((t.tempInUse .n1).value, (t.tempInUse .n1).quality)) = some (3240, .held) := by
  decide +kernel

/-- R120: with no prove ACTIVE a pass is stray. -/
theorem test_pass_frame_is_stray :
    (after .passFrame (withHead metering (pass2 2 0))).map (fun t => ((t.entry 121).state, (t.entry 121).count)) =
      some (.returnedUnack, 1) := by decide +kernel

/-- R12: the stale timer holds the temperature of slot 2 and VALUE_HELD is raised. -/
theorem test_stale_timer_holds :
    (after (.staleTimerExpiry 2) metering).map
        (fun t => (t.now, (t.tempInUse .n1).quality, (t.entry 47).state)) =
      some (5000, .held, .activeUnack) := by decide +kernel

/-- R156: DROP_OLDEST_SAMPLE makes room by the oldest sample. -/
theorem test_drop_oldest_sample :
    ({ ready with inbound :=
      { fifo := req 38 [] :: List.replicate 15 pulse2, policy := .dropOldestSample, reception := .claimed }
      } |>.arrive (req 36 [])).inbound.fifo = req 38 [] :: List.replicate 14 pulse2 ++ [req 36 []] := by
  decide +kernel

/-- Section 4.1: the first COMMISSION after a power-on reset opens sequence 1. -/
theorem test_commission_opens_the_head :
    (after .commission (asks { resting with batch := { resting.batch with counter := 0 } } 34 [])).map
        (fun t => (t.mgmt.device, t.batch.counter, t.responses.map (·.payload))) =
      some (.measuring, 1, [[0, 0, 0, 1]]) := by decide +kernel

/-- R81: with nothing behind it, an unnominated batch follows. -/
theorem test_close_batch_opens_an_unnominated_one :
    (after .closeBatch (asks metering 14 [])).map
        (fun t => (t.batch.schedule.map (·.nomination), t.tickets.map (·.seq), t.responses.map (·.payload))) =
      some ([0], [58], [[0, 0, 0, 58, 0, 0, 0, 59]]) := by decide +kernel

/-- R80: the sequence after 4,294,967,295 is 1. -/
theorem test_sequence_wraps_to_1 : nextSequence 4294967295 = 1 := by decide

/-- R118: the head of the queue of a free prover becomes ACTIVE. -/
theorem test_request_prove :
    (after .requestProve (asks metering 22 [1])).map (fun t => ((t.prove .n1).state, t.prover.queue)) =
      some (.active .n1 86250 0 [] 300000, []) := by decide +kernel

/-- R138 and R183: every field at its width, here with an empty window and no last outcome. -/
theorem test_read_prove_of_a_run_has_one_width :
    ((metering.proveReport .n1).length, (proving.proveReport .n1).length, (proving.proveReport .n2).length) =
      (97, 97, 97) := by decide +kernel

/-- R56: a mapped record in NO_DATA is used as SUBSTITUTE, and only an unmapped role as NO_DATA. -/
theorem test_no_data_is_used_as_substitute :
    (((metering.setSlot 2 (some ⟨11, .runTemp .n1, metering.freshRecord (.runTemp .n1)⟩)).captureRun .n1).temp,
      (metering.captureRun .n2).temp) = (⟨1500, .substitute, false⟩, ⟨1500, .noData, false⟩) := by
  decide +kernel

/-- R181: the station time wraps. -/
theorem test_station_time_wraps :
    (after .stationTimeAdvance { ready with mgmt := { ready.mgmt with stationTime := 4294967295 } }).map
        (fun t => (t.mgmt.stationTime, t.now)) = some (0, 1000) := by decide +kernel

/-- R165, R167: the response at slot 2 of the default plan goes out and the pointer moves to slot 3. -/
theorem test_transmission_start_sends_a_response :
    (after .transmissionStart
        { ready with
          responses := [⟨0, 7, 38, .done, []⟩], outbound := { ready.outbound with downstreamReady := true } }).map
        (fun t => (t.responses, t.outbound.pointer, t.outbound.sending.map (·.payload))) =
      some ([], 3, some [0, 0, 7, 38, 0]) := by decide +kernel

/-- Figure 7-1, steps 1 and 4. -/
theorem test_condition_entry_life :
    let s := { metering with cond := { metering.cond with raiseSeq := 1000 } }.raise .curveLimit 1
    s.entry 99 = ⟨.activeUnack, 1, some ⟨0, false, 1001⟩, true⟩ ∧ s.summaryLevel = 2 ∧
    (s.acknowledge 99).summaryLevel = 0 ∧ ((s.acknowledge 99).returnCond .curveLimit 1).entry 99 =
      ⟨.normal, 1, some ⟨0, false, 1001⟩, true⟩ := by decide +kernel

/-- Figure 4-3: at 12 s the density goes outside and the timer runs to 72 s; at 20 s it is inside. -/
theorem test_interface_detector :
    let s := { metering.withBatch { batch58 with window := some ⟨82800, 84000⟩ } with now := 12000 }
    s.judge.batch.detector = .timing 72000 ∧
    ({ s with
        points := { s.points with map := [some ⟨14, .headerDens, good 83980⟩] }
        batch := { s.batch with detector := .timing 72000 } }).judge.batch.detector = .inside := by
  decide +kernel

/-! ### Witnesses: the machine as a whole -/

theorem witness_StepTakesTheFrontOrIdles :
    (ready.withPending [.restart]).pending = .restart :: [] ∧ ready.pending = [] := by decide

theorem witness_ResetAndItsEnd : State.reset.held = true ∧ ready.held = false := by decide

theorem witness_HeldInResetNothingHappens :
    State.reset.held = true ∧ Instr.restart ≠ .powerOnReset ∧ (∀ n r, Instr.restart ≠ .resetEnd n r) ∧
    ∀ l, Instr.restart ≠ .downstreamReadyChange l :=
  ⟨rfl, by decide, fun _ _ => by simp, fun _ => by simp⟩

theorem witness_WaitingCommandsAreKept :
    ∃ t, exec .stationTimeAdvance (ready.withPending [.restart]) = .next t := ⟨_, rfl⟩

/-- A batch entry with its proves list full. -/
def proved58 : BatchEntry := { batch58 with proves := List.replicate 8 ⟨.n1, 1000000, 0⟩ }

/-- A run's snapshot slot pending. -/
def pendingSlot : SnapSlot RunSnapshot := { metering.reports.runSlots.n1 with pending := true }

/-- Every bounded collection at its bound. -/
def brim : State :=
  { metering with
    inbound := { fifo := List.replicate 16 pulse2, policy := .hold, reception := .unclaimed }
    forward := List.replicate 16 pulse2
    responses := List.replicate 8 ⟨0, 7, 38, .done, []⟩
    tickets := List.replicate 16 { ticketOf 1 with proves := proved58.proves }
    batch := { metering.batch with schedule := List.replicate 8 proved58 }
    prover := {
      config := some prover62
      queue := [.n4, .n2, .n3]
      records := ⟨⟨.active .n1 86250 9 (List.replicate 5 ⟨1, 1000000, 0, false, true⟩) 300000, none⟩,
        ⟨.queued, none⟩, ⟨.queued, none⟩, ⟨.queued, none⟩⟩ }
    reports := { metering.reports with
      order := [.header, .run .n3, .run .n1, .run .n4, .run .n2]
      runSlots := .const pendingSlot
      headerSlot := { metering.reports.headerSlot with pending := true } }
    outbound := { metering.outbound with plan := List.replicate 8 ⟨.forward, .response⟩, pointer := 8 } }

theorem brim_tables : brim.TablesWhole := ⟨rfl, rfl⟩

theorem brim_capable : brim.Capacities :=
  { brim_tables with
    fifo := by decide
    forward := by decide
    responses := by decide
    tickets := by decide
    schedule := by decide
    proves := by decide
    ticketProves := by decide +kernel
    proveOnce := by decide
    proveQueued := fun r => by cases r <;> decide
    window := fun r k rho count w timer h => by
      cases r <;> cases h
      exact ⟨prover62, rfl, by decide⟩
    orderOnce := by decide
    orderPending := fun id => by
      cases id with
      | run r => cases r <;> decide
      | header => decide
    plan := by decide
    pointer := by decide }

theorem witness_CapacitiesKept : brim.Capacities ∧ ∃ t, step brim = .next t := ⟨brim_capable, _, rfl⟩

/-- Every residue of run 1 one below its divisor. -/
def brimming : State :=
  metering.setChain .n1
    { ChainRecord.powerOn with ivRes := 2399999, gsvRes := 999999, nsvRes := 999999, massRes := 99999 }

theorem witness_ResiduesStayBelow : brimming.ResiduesBelow ∧ ∃ t, step brimming = .next t := by
  refine ⟨⟨fun r k h => ?_, fun r k h => ?_, fun r => ?_, fun r => ?_, fun r => ?_⟩, _, rfl⟩
  · cases r <;> first | cases h; decide | cases h
  · cases r <;> first | cases h; decide | cases h
  all_goals cases r <;> decide

theorem proving_ordered : proving.ProverOrdered := by
  refine ⟨by decide, fun r => ?_, fun r q => ?_, fun _ => ⟨.n1, rfl⟩⟩
  · cases r <;> decide
  · cases r <;> cases q <;> decide

theorem witness_ProverStaysOrdered : proving.ProverOrdered ∧ ∃ t, step proving = .next t :=
  ⟨proving_ordered, _, rfl⟩

theorem witness_FlagsStayQuiet :
    resting.FlagsQuiet ∧ resting.mgmt.device = .uncommissioned ∧ ∃ t, step resting = .next t :=
  ⟨fun _ r => by cases r <;> rfl, rfl, _, rfl⟩

/-- Run 1 with its mismatch flag set and the condition raised. -/
def mismatched : State := metering.setFlags .n1 { RunFlags.clear with pulseMismatch := true }

theorem witness_ConditionsFollowFlags :
    mismatched.ConditionsFollow ∧ (mismatched.entry 91).active = true ∧ ∃ t, step mismatched = .next t := by
  have tables : mismatched.TablesWhole := { slots := by decide +kernel, entries := by decide +kernel }
  refine ⟨{ tables with
    mismatch := fun r => ?_, aboveMax := fun r => ?_, curveLimit := fun r => ?_,
    curveMissing := fun r => ?_, gridLimit := fun r => ?_, outOfService := fun r => ?_ },
    by decide +kernel, _, rfl⟩ <;>
  cases r <;> decide +kernel

theorem witness_FiguresTablesAndStrapsHaveTheirWriters :
    Instr.closeBatch ∉ [Instr.pulseFrame, .seedTotals, .powerOnReset, .passFrame, .acceptProve, .clearShift,
      .beginLoad, .discardSet, .loadSegment, .commitSet] ∧
    (asks metering 14 []).held = false ∧
    (let s : State := { asks metering 14 [] with mgmt := { metering.mgmt with timeValid := true } };
      s.mgmt.timeValid = true ∧ ∃ t, exec .closeBatch s = .next t) := ⟨by decide, rfl, rfl, _, rfl⟩

theorem witness_TicketsAndBatchCounter :
    Instr.closeBatch ∉ [Instr.releaseTicket, .powerOnReset] ∧
    ∃ t, exec .closeBatch (asks metering 14 []) = .next t := ⟨by decide, _, rfl⟩

/-! ### Witnesses: the inbound link -/

theorem witness_FrameRoundTrip :
    (List.replicate 248 (0 : Byte)).length ≤ 248 ∧
    parseFrame [5, 0, 5, 2, 7, 38, 66, 7] = some ⟨5, 0, 5, [7, 38], 0x4207⟩ := by decide +kernel

/-- The FIFO with a number of requests under a policy. -/
def filled (n : Nat) (policy : Policy) (reception : Reception) : State :=
  { ready with inbound := { fifo := List.replicate n (req 38 []), policy, reception } }

theorem witness_ReceptionStartClaims :
    (filled 15 .hold .none).held = false ∧ (filled 15 .hold .none).inbound.reception = .none ∧
    (filled 15 .hold .none).inbound.policy = .hold ∧ (filled 15 .hold .none).inbound.fifo.length < 16 ∧
    16 ≤ (filled 16 .hold .none).inbound.fifo.length ∧
    (filled 16 .dropNewest .none).inbound.policy ≠ .hold := by decide

theorem witness_FrameEndArrivals :
    parseFrame [] = none ∧ parseFrame [5, 0, 5, 2, 7, 38, 66, 7] = some ⟨5, 0, 5, [7, 38], 0x4207⟩ ∧
    (filled 15 .hold .claimed).inbound.reception ≠ .none ∧ (filled 15 .hold .claimed).held = false ∧
    (filled 15 .hold .claimed).inbound.fifo.length < 16 ∧
    (filled 16 .hold .claimed).inbound.fifo.length = 16 ∧
    (filled 16 .hold .claimed).inbound.policy ≠ .dropOldestSample ∧
    (filled 16 .dropOldestSample .unclaimed).inbound.fifo.all (fun x => !x.isSample) = true ∧
    (let l := req 38 [] :: pulse2 :: List.replicate 14 pulse2;
      l = [req 38 []] ++ pulse2 :: List.replicate 14 pulse2 ∧ l.length = 16 ∧ pulse2.isSample = true ∧
      [req 38 []].all (fun y => !y.isSample) = true) := by decide +kernel

/-- A frame for node 9. -/
def foreign : Frame := ⟨9, 0, kindRequest, [7, 38], 0⟩

/-- A broadcast frame. -/
def toAll (f : Frame) : Frame := { f with dest := broadcast }

theorem witness_HeadsThatAreNoSamples :
    ((withHead ready foreign).held = false ∧ (withHead ready foreign).inbound.fifo = foreign :: [] ∧
    ready.isOwn foreign = false ∧ foreign.dest ≠ broadcast ∧
    ready.isOwn (toAll (sample kindPulse [1])) = false ∧ (toAll (sample kindPulse [1])).rightLength = false ∧
    (toAll pulse2).kind ≠ kindTrigger ∧ ready.sampleEntry (toAll pulse2) = none ∧
    ({ ready with forward := List.replicate 15 foreign } : State).forward.length < 16 ∧
    16 ≤ ({ ready with forward := List.replicate 16 foreign } : State).forward.length ∧
    ready.isOwn (sample kindTrigger []) = true ∧ (sample kindTrigger []).kind = kindTrigger ∧
    (sample kindTrigger []).payload = []) ∧ ∀ id, ready.snapEnables .external id = false :=
  ⟨by decide, fun id => by cases id with
    | run r => cases r <;> rfl
    | header => rfl⟩

theorem witness_SamplesThatReachNoRecord :
    (withHead ready (sample kindPulse [1])).inbound.fifo = sample kindPulse [1] :: [] ∧
    ready.isOwn (sample kindPulse [1]) = true ∧ (sample kindPulse [1]).rightLength = false ∧
    (⟨5, 0, kindRequest, [7], 0⟩ : Frame).payload.length < 2 ∧
    (sample 9 []).kind ∉ [kindPulse, kindValue, kindPass, kindTrigger, kindRequest] ∧
    pulse2.rightLength = true ∧ ready.sampleEntry pulse2 = none ∧
    (withHead metering { pulse2 with payload := pulse2.payload.set 2 1 }).Samples kindPulse
      { pulse2 with payload := pulse2.payload.set 2 1 } 1 ⟨10, .pulse .n1, counting⟩ ∧
    classify counting.last ⟨1, 1⟩ = .discarded := by decide

/-- The ends of the rows of R5's table: a distance of 0, 1, 128 and 129, and across the wrap. -/
theorem witness_AcceptanceTable :
    classify (some ⟨7, 1⟩) ⟨7, 2⟩ = .restart ∧ classify (some ⟨7, 1⟩) ⟨7, 1⟩ = .discarded ∧
    classify (some ⟨255, 1⟩) ⟨0, 1⟩ = .next ∧ classify (some ⟨200, 1⟩) ⟨72, 1⟩ = .gap ∧
    classify (some ⟨200, 1⟩) ⟨73, 1⟩ = .discarded ∧ classify (some ⟨200, 1⟩) ⟨199, 1⟩ = .discarded := by
  decide

theorem witness_BroadcastIsTakenThenForwarded :
    (let s := withHead metering (toAll pulse2);
      s.held = false ∧ s.ownNode = some (5 : Byte).toNat ∧ s.inbound.fifo = toAll pulse2 :: [] ∧
      (toAll pulse2).dest = broadcast ∧ (toAll pulse2).rightLength = true ∧
      (s.sampleEntry (toAll pulse2)).isSome = true ∧ s.forward.length < 16) ∧
    ∃ t, exec .pulseFrame (withHead metering { toAll pulse2 with dest := 5 }) = .next t :=
  ⟨by decide, _, rfl⟩

/-! ### Witnesses: requests -/

theorem witness_OneResponsePerRequest :
    requestKindOf .readStatus = some 38 ∧ (asks ready 38 []).Requests 38 (req 38 []) [] ∧
    rowTakes .readStatus [] = true ∧
    (asks { ready with responses := List.replicate 7 ⟨0, 7, 38, .done, []⟩ } 5 [0, 1]).Requests 5
      (req 5 [0, 1]) [0, 1] ∧ rowTakes .setRunServiceOpen [0, 1] = true ∧
    rowTakes .setRunServiceClose [0, 1] = false := by decide

theorem witness_CommonChecksOfARequest :
    (asks ready 38 [0]).Requests 38 (req 38 [0]) [0] ∧ lengthFits 38 [0] = false ∧
    (asks ready 0 []).Requests 0 (req 0 []) [] ∧ (asks ready 39 []).Requests 39 (req 39 []) [] ∧
    (asks ready 255 []).Requests 255 (req 255 []) [] := by decide

theorem witness_RefusalChangesNothing :
    (asks ready 34 []).Requests 34 (req 34 []) [] ∧
    ∃ t, exec .commission (asks ready 34 []) = .next t ∧
      t.responses = (asks ready 34 []).responses ++ [⟨0, 7, 34, .refusedState, []⟩] :=
  ⟨by decide, _, rfl, by decide +kernel⟩

/-- One ticket held. -/
def holding : State := { ready with tickets := [ticketOf 58] }

theorem witness_ReadsChangeNothing :
    ((asks ready 6 [2, 0]).Requests 6 (req 6 [2, 0]) [2, 0] ∧
      (asks ready 6 [1, 4]).Requests 6 (req 6 [1, 4]) [1, 4] ∧
      (asks metering 6 [0, 10]).Requests 6 (req 6 [0, 10]) [0, 10] ∧
      metering.findPoint 10 = some (1, ⟨10, .pulse .n1, counting⟩) ∧
      metering.findPoint (254 : Byte).toNat = none ∧ (254 : Byte).toNat ≤ 254 ∧
      (asks ready 11 [1]).Requests 11 (req 11 [1]) [1]) ∧
    ((asks ready 16 [0, 0]).Requests 16 (req 16 [0, 0]) [0, 0] ∧
      (asks metering 16 [1, 0]).Requests 16 (req 16 [1, 0]) [1, 0] ∧
      (asks metering 16 [2, 4]).Requests 16 (req 16 [2, 4]) [2, 4] ∧
      metering.activeBatch = some batch58 ∧ (asks ready 26 [0]).Requests 26 (req 26 [0]) [0] ∧
      (asks ready 26 [4]).Requests 26 (req 26 [4]) [4]) ∧
    ((asks holding 17 [0, 0, 0, 0, 0, 0]).Requests 17 (req 17 [0, 0, 0, 0, 0, 0]) [0, 0, 0, 0, 0, 0] ∧
      (asks holding 17 [1, 0, 0, 0, 58, 1]).Requests 17 (req 17 [1, 0, 0, 0, 58, 1]) [1, 0, 0, 0, 58, 1] ∧
      holding.tickets.head? = some (ticketOf 58) ∧
      (holding.tickets.find? fun x => x.seq == natOf [0, 0, 0, 58]) = some (ticketOf 58) ∧
      (ticketOf 58).sectionBytes 1 = some (ticketOf 58).provesList ∧
      (ticketOf 58).sections.length + 2 ≤ (2 : Byte).toNat ∧ ready.tickets.head? = none) ∧
    ((asks ready 30 [2, 0, 121]).Requests 30 (req 30 [2, 0, 121]) [2, 0, 121] ∧
    (asks ready 30 [3, 6, 1]).Requests 30 (req 30 [3, 6, 1]) [3, 6, 1] ∧ (ready.chosen 3 6).isSome = true ∧
    (ready.chosen 0 255).isSome = true ∧ (asks ready 30 [4, 0, 0]).Requests 30 (req 30 [4, 0, 0]) [4, 0, 0]) :=
  ⟨by decide, by decide, by decide +kernel, by decide⟩

theorem witness_ReadStatusAndTotalsPayloads :
    (asks ready 38 []).Requests 38 (req 38 []) [] ∧ (asks ready 19 [4]).Requests 19 (req 19 [4]) [4] ∧
    Num4.ofNat? (4 : Byte).toNat = some .n4 ∧ (asks ready 19 [0]).Requests 19 (req 19 [0]) [0] := by decide

/-! ### Witnesses: points and runs -/

theorem witness_MapAndUnmapPoint :
    (asks resting 1 [254, 0, 2]).Requests 1 (req 1 [254, 0, 2]) [254, 0, 2] ∧
    roleOf 0 2 = some (.pulse .n2) ∧ resting.findPoint 254 = none ∧
    resting.roleCondition (.pulse .n2) = true ∧ resting.roleTaken (.pulse .n2) 254 = false ∧
    resting.freeSlot = some 7 ∧
    (asks resting 2 [14]).Requests 2 (req 2 [14]) [14] ∧
    resting.findPoint 14 = some (5, ⟨14, .headerDens, good 86000⟩) ∧
    resting.roleCondition .headerDens = true := by decide

/-- A CONFIGURE_RUN of run 2 at the greatest K-factor and the ends of its other ranges. -/
def runParams : List Byte :=
  2 :: (field 8 100000000000 ++ [1, 255] ++ field 4 99999999 ++ field 4 99999999 ++
    signedField 4 (-5000) ++ signedField 4 15000 ++ signedField 4 15000 ++
    field 4 0 ++ field 4 200000 ++ field 4 0 ++ field 4 60000 ++ field 4 3600000)

/-- A CONFIGURE_HEADER at the ends of its ranges. -/
def headerParams : List Byte :=
  field 4 50000 ++ field 4 120000 ++ field 4 0 ++ field 4 1000000 ++ field 4 0 ++ field 4 1000000 ++
    field 4 100 ++ field 4 0 ++ field 4 600

theorem witness_ConfigureRunAndHeader :
    (asks metering 3 runParams).Requests 3 (req 3 runParams) runParams ∧ runParams.length = 51 ∧
    runAt 0 runParams = some .n2 ∧ (metering.run .n2).state = .closed ∧
    (runConfigOf runParams).inRange = true ∧
    (asks resting 4 headerParams).Requests 4 (req 4 headerParams) headerParams ∧
    headerParams.length = 36 ∧ resting.mgmt.device = .uncommissioned ∧
    (headerConfigOf headerParams).inRange = true ∧
    runAt 0 (runParams.set 0 0) = none ∧ runAt 0 (runParams.set 0 5) = none ∧
    (metering.run .n1).state ≠ .closed ∧ metering.mgmt.device ≠ .uncommissioned ∧
    (runConfigOf (runParams.set 1 1)).inRange = false ∧
    (headerConfigOf (headerParams.set 35 89)).inRange = false ∧
    (let s := metering.withRun { run1 with state := .closed };
      runAt 0 (runParams.set 0 1) = some .n1 ∧ (s.run .n1).state = .closed ∧
      s.findRole (.runTemp .n1) = some (2, ⟨11, .runTemp .n1, good 3240⟩) ∧
      s.findRole (.runPres .n1) = some (3, ⟨12, .runPres .n1, good 14500⟩) ∧
      (s.slotEntry 1).map (·.role) = some (.pulse .n1) ∧
      (s.freshRecord (.runTemp .n1)).quality = .noData) ∧
    resting.findRole .headerWater = some (4, ⟨13, .headerWater, good 1800⟩) ∧
    (resting.freshRecord .headerWater).quality = .noData ∧
    (headerConfigOf (headerParams.set 23 0)).waterLimit ≠ resting.points.header.waterLimit := by
  decide +kernel

theorem witness_SetRunService :
    Num4.ofNat? (1 : Byte).toNat = some .n1 ∧
    (asks (metering.withRun { run1 with state := .closed }) 5 [0, 1]).Requests 5 (req 5 [0, 1]) [0, 1] ∧
    (metering.findRole (.pulse .n1)).isSome = true ∧ (metering.run .n1).configured = true ∧
    (asks metering 5 [1, 1]).Requests 5 (req 5 [1, 1]) [1, 1] ∧ (metering.run .n1).state = .metering ∧
    (metering.run .n1).closePending = false ∧
    ((metering.withRun { run1 with closePending := true, closeTimer := some 10000 }).run .n1).closeTimer =
      some 10000 ∧
    ((metering.withRun { run1 with state := .idle }).run .n1).state = .idle ∧
    (asks metering 5 [0, 2]).Requests 5 (req 5 [0, 2]) [0, 2] ∧ (metering.run .n2).state = .closed ∧
    (metering.run .n2).configured = false ∧ metering.findRole (.pulse .n2) = none ∧
    Num4.ofNat? (0 : Byte).toNat = none ∧ Num4.ofNat? (5 : Byte).toNat = none ∧
    (asks metering 5 [0, 5]).Requests 5 (req 5 [0, 5]) [0, 5] ∧
    (asks metering 5 [1, 0]).Requests 5 (req 5 [1, 0]) [1, 0] ∧
    ((metering.withRun { run1 with closePending := true }).run .n1).closePending = true ∧
    (proving.prove .n1).state = .active .n1 86250 0 [] 300000 ∧ proving.prover.queue = [.n2] ∧
    (metering.withProve (.active .n1 86250 0 [] 300000)).prover.queue = [] ∧
    (metering.prove .n1).state.isActive = false := by decide

/-- The prover stays in order whatever a run does. -/
theorem witness_SetRunService_ordered (u : RunUnit) : (proving.setRun .n1 u).ProverOrdered :=
  ⟨proving_ordered.once, proving_ordered.queued, proving_ordered.single, proving_ordered.behind⟩

/-- The tables are whole with any frame at the head. -/
theorem metering_whole (f : Frame) : (withHead metering f).TablesWhole := ⟨rfl, rfl⟩

theorem witness_ValueFrameTakesTheValue :
    ((withHead metering (value2 13 0 [0, 15, 66, 65])).Samples kindValue (value2 13 0 [0, 15, 66, 65]) 4
      ⟨13, .headerWater, good 1800⟩ ∧
    classify (good 1800).last (value2 13 0 [0, 15, 66, 65]).seqEpoch ≠ .discarded ∧
    metering.valueConfig .headerWater = some ⟨0, 1000000, some 0, 5000, 60000⟩ ∧
    natAt 3 1 (value2 13 0 [0, 15, 66, 65]).payload = 0) ∧
    (withHead metering (value2 13 0 [0, 15, 66, 65])).TablesWhole :=
  ⟨by decide, metering_whole _⟩

theorem witness_ValueRecordGoesDown :
    ((withHead metering (value2 11 1 [0, 0, 0, 0])).Samples kindValue (value2 11 1 [0, 0, 0, 0]) 2
      ⟨11, .runTemp .n1, good 3240⟩ ∧
    metering.valueConfig (.runTemp .n1) = some ⟨-5000, 15000, some 1500, 5000, 60000⟩ ∧
    natAt 3 1 (value2 11 1 [0, 0, 0, 0]).payload ≠ 0 ∧ (good 3240).quality = .good ∧
    (metering.withRun { run1 with config := { run1.config with hold := 0 } }).valueConfig (.runTemp .n1) =
      some ⟨-5000, 15000, some 1500, 5000, 0⟩ ∧
    ({ good 3240 with quality := .noData } : LiveRecord).quality ≠ .good ∧
    metering.slotEntry 5 = some ⟨14, .headerDens, good 86000⟩ ∧ (good 86000).staleTimer = some 5000 ∧
    ({ metering with points := { metering.points with
        map := [some ⟨14, .headerDens, { good 86000 with
          quality := .held, staleTimer := none, holdTimer := some 60000 }⟩] } }.slotEntry 1).bind
        (·.record.holdTimer) = some 60000) ∧
    (withHead metering (value2 11 1 [0, 0, 0, 0])).TablesWhole :=
  ⟨by decide, metering_whole _⟩

/-! ### Witnesses: the Measurement Chain -/

theorem witness_PulseFrameIsBooked :
    (withHead metering pulse2).Samples kindPulse pulse2 1 ⟨10, .pulse .n1, counting⟩ ∧
    classify counting.last pulse2.seqEpoch = .next ∧ counting.base = some ⟨100, 100, 0⟩ ∧
    classify (some ⟨1, 1⟩) ⟨3, 1⟩ = .gap ∧
    ((metering.withRun { run1 with closePending := true }).run .n1).state ≠ .closed ∧
    0 < (pulse2.counts.since ⟨100, 100, 0⟩).elapsed ∧ (metering.run .n1).state ≠ .closed ∧
    (metering.run .n1).config.kmilli = some 2400000 ∧ metering.activeBatch = some batch58 ∧
    (metering.run .n1).config.cutoff ≤ (formRate 2400000 (pulse2.counts.since ⟨100, 100, 0⟩)).q ∧
    (formRate 2400000 (pulse2.counts.since ⟨100, 100, 0⟩)).q = 3705000 ∧ batch58.target = none ∧
    (let i := increments (metering.chainOf .n1) 2400000 1235 987789 1800 86250;
      i.nsv = 507384 ∧ batch58.nsv + i.nsv < 508 * 1000 ∧ 507 * 1000 ≤ batch58.nsv + i.nsv) ∧
    batch58.closing = none ∧ batch58.seq = some 58 ∧ metering.tickets.length < 16 ∧
    two.batch.schedule = batch58 :: queued4102 :: [] ∧ metering.batch.schedule = [batch58] ∧
    16 ≤ ({ two with tickets := List.replicate 16 (ticketOf 1) } : State).tickets.length ∧
    ({ batch58 with closing := some ⟨.request, 0, false, false⟩ } : BatchEntry).closing.isSome = true := by
  decide

/-- A PULSE frame one count below the cutoff: 166 pulses in half a second are a rate of 498,000. -/
def slow : Frame := sample kindPulse [10, 1, 2, 0, 0, 1, 10, 0, 0, 1, 10, 0, 7, 161, 32]

theorem witness_PulseFrameIsNotBooked :
    (withHead metering pulse2).Samples kindPulse pulse2 1 ⟨10, .pulse .n1, counting⟩ ∧
    (metering.run .n1).closePending = false ∧
    classify (none : Option SeqEpoch) pulse2.seqEpoch = .first ∧
    classify (some ⟨1, 0⟩) pulse2.seqEpoch = .restart ∧
    ((pulse2.counts.since ⟨100, 100, 500000⟩).elapsed = 0) ∧
    ((metering.withRun { run1 with state := .closed }).run .n1).state = .closed ∧
    resting.activeBatch = none ∧
    (withHead metering slow).Samples kindPulse slow 1 ⟨10, .pulse .n1, counting⟩ ∧
    (formRate 2400000 (slow.counts.since ⟨100, 100, 0⟩)).q < (metering.run .n1).config.cutoff := by decide

/-- Both cases of the saturation. -/
theorem witness_RateAndExactCarry :
    (formRate 1000 ⟨4294967295, 0, 1⟩).saturated = true ∧
    (formRate 2400000 ⟨1235, 0, 500000⟩).saturated = false ∧ (1 : Nat) ≤ 1000 := by decide

theorem witness_TotalizerRollsOver :
    (9999999999999999 : Nat) ≤ 9999999999999999 ∧ addTotal 9999999999999999 0 = 9999999999999999 ∧
    addTotal 9999999999999999 1 = 0 := by decide

/-! ### Witnesses: tables -/

theorem witness_CurveAndGridLookups :
    (2 ≤ curve1.length ∧ ascending (curve1.map fun p => (p.rate : Int)) = true ∧
      curve1[2]? = some ⟨4000000, 1001300⟩ ∧ curve1.head? = some ⟨2000000, 1000400⟩ ∧
      curve1.getLast? = some ⟨4000000, 1001300⟩ ∧ curve1[0]? = some ⟨2000000, 1000400⟩ ∧
      curve1[0 + 1]? = some ⟨3000000, 1000900⟩) ∧
    (let temps : List Int := [3000, 3500, 6000]
      let denss : List Int := [85000, 87000]
      set1.tempAxis = some temps ∧ set1.densAxis = some denss ∧ ascending temps = true ∧
      ascending denss = true ∧ temps[1]? = some 3500 ∧ temps[1 + 1]? = some 6000 ∧
      denss[0]? = some 85000 ∧ denss[0 + 1]? = some 87000 ∧
      set1.rows[0]? = some (some [⟨987400, 760⟩, ⟨983100, 790⟩, ⟨966200, 905⟩]) ∧
      set1.rows[0 + 1]? = some (some [⟨987700, 720⟩, ⟨983500, 748⟩, ⟨966900, 858⟩]) ∧
      temps.head? = some 3000 ∧ temps.getLast? = some 6000 ∧ denss.head? = some 85000 ∧
      denss.getLast? = some 87000) := by decide

theorem witness_BeginLoadAndDiscardSet :
    Num4.ofNat? (2 : Byte).toNat = some .n2 ∧ metering.referenced .n2 = false ∧
    (asks metering 7 [2, 16, 8]).Requests 7 (req 7 [2, 16, 8]) [2, 16, 8] ∧
    (asks metering 7 [2, 2, 2]).Requests 7 (req 7 [2, 2, 2]) [2, 2, 2] ∧
    (asks metering 10 [2]).Requests 10 (req 10 [2]) [2] ∧
    Num4.ofNat? (0 : Byte).toNat = none ∧ Num4.ofNat? (5 : Byte).toNat = none ∧
    (1 : Byte).toNat < 2 ∧ 16 < (17 : Byte).toNat ∧ 8 < (9 : Byte).toNat ∧
    Num4.ofNat? (1 : Byte).toNat = some .n1 ∧ metering.referenced .n1 = true := by decide

/-- Set 2 in loading. -/
def loading : State := metering.setTable .n2 (.begun 2 2)

theorem witness_LoadSegmentStores :
    (loading.tableSet .n2).state = .loading ∧ (loading.tableSet .n2).sizes = some ⟨2, 2⟩ ∧
    (let p : List Byte := 2 :: 0 :: 0 :: 2 :: (signedField 4 (-5000) ++ signedField 4 15000);
      (asks loading 8 p).Requests 8 (req 8 p) p ∧ (tempPoints p).all (withinInt (-5000) 15000) = true) ∧
    (let p : List Byte := 2 :: 1 :: 0 :: 2 :: (field 4 50000 ++ field 4 120000);
      (asks loading 8 p).Requests 8 (req 8 p) p ∧ (densPoints p).all (withinInt 50000 120000) = true) ∧
    (let p : List Byte := 2 :: 2 :: 2 :: 2 :: (field 4 800000 ++ field 2 0 ++ field 4 1100000 ++ field 2 5000);
      (asks loading 8 p).Requests 8 (req 8 p) p ∧ (rowCells p).all GridCell.inRange = true) ∧
    (let p : List Byte := 2 :: 3 :: 4 :: 2 :: (field 4 0 ++ field 4 800000 ++ field 4 99999999 ++ field 4 1200000);
      (asks loading 8 p).Requests 8 (req 8 p) p ∧ (curvePoints p).all CurvePoint.inRange = true) ∧
    (asks loading 8 [2, 4, 1, 0]).Requests 8 (req 8 [2, 4, 1, 0]) [2, 4, 1, 0] := by decide +kernel

/-- Set 1 of the worked example before its commit. -/
def complete : State := metering.setTable .n1 { set1 with state := .loading, signature := none }

/-- The same with its temperature points out of order. -/
def disordered : State :=
  metering.setTable .n1
    { set1 with state := .loading, signature := none, tempAxis := some [3500, 3000, 6000] }

/-- Four bytes spell every signature. -/
theorem four_bytes_spell (n : Nat) (h : n < 4294967296) : ∃ v : List Byte, v.length = 4 ∧ natOf v = n := by
  refine ⟨[BitVec.ofNat 8 (n / 16777216), BitVec.ofNat 8 (n / 65536), BitVec.ofNat 8 (n / 256),
    BitVec.ofNat 8 n], rfl, ?_⟩
  simp [natOf]
  omega

theorem witness_CommitSetMakesTheSetUsable :
    (∀ v : List Byte, (asks complete 9 (1 :: v)).Requests 9 (req 9 (1 :: v)) (1 :: v)) ∧
    (complete.tableSet .n1).state = .loading ∧ (complete.tableSet .n1).complete = true ∧
    (complete.tableSet .n1).ordered = true ∧
    (loading.tableSet .n2).state = .loading ∧ (loading.tableSet .n2).complete = false ∧
    (disordered.tableSet .n1).state = .loading ∧ (disordered.tableSet .n1).complete = true ∧
    (disordered.tableSet .n1).ordered = false ∧ (metering.tableSet .n1).state ≠ .loading ∧
    Num4.ofNat? (0 : Byte).toNat = none ∧ Num4.ofNat? (5 : Byte).toNat = none ∧
    (∃ v, v.length = 4 ∧ natOf v = (crc32 (complete.tableSet .n1).image).toNat) ∧
    (∃ v, v.length = 4 ∧ natOf v ≠ (crc32 (complete.tableSet .n1).image).toNat) := by
  refine ⟨fun v => ⟨rfl, rfl, rfl, rfl, rfl, by show 0 < 8; decide⟩, rfl, by decide, by decide, rfl,
    by decide, rfl, by decide, by decide, by decide, by decide, by decide,
    four_bytes_spell _ (BitVec.isLt _), ?_⟩
  by_cases h : natOf [0, 0, 0, 0] = (crc32 (complete.tableSet .n1).image).toNat
  · exact ⟨[0, 0, 0, 1], rfl, by rw [← h]; decide⟩
  · exact ⟨_, rfl, h⟩

/-! ### Witnesses: batches, tickets and totals -/

/-- A QUEUE_BATCH of nomination 4103 on set 1 with a target. -/
def nominate : List Byte :=
  field 4 4103 ++ [1] ++ field 4 120000 ++ field 4 50000 ++ field 4 120000 ++ [1] ++ field 4 999999999 ++ [1]

/-- Batch 58 waiting with a cause, behind it the entries given, with a number of tickets held. -/
def waitingWith (cause : CloseCause) (behind : List BatchEntry) (held : Nat) : State :=
  { metering with
    batch := { metering.batch with
      schedule := { batch58 with closing := some ⟨cause, 0, false, false⟩ } :: behind }
    tickets := List.replicate held (ticketOf 1) }

/-- An AMEND_TARGET of a nomination, with a target of some litres or none. -/
def amendment (nomination : Nat) (target : Option Nat) : List Byte :=
  field 4 nomination ++ optional 4 (field 4) target

theorem witness_QueueCancelAndAmend :
    ((asks two 12 nominate).Requests 12 (req 12 nominate) nominate ∧ nominate.length = 23 ∧
      setAt 4 nominate = some .n1 ∧
      windowOf (natAt 9 4 nominate) (natAt 13 4 nominate) = some (some ⟨50000, 120000⟩) ∧
      natAt 0 4 nominate ≠ 0 ∧ (two.tableSet .n1).state = .committed ∧ natAt 5 4 nominate ≤ 120000 ∧
      targetInRange (optionalAt 17 4 nominate) = true ∧
      (∀ b ∈ two.batch.schedule, b.nomination ≠ natAt 0 4 nominate) ∧ two.batch.schedule.length < 8 ∧
      two.closePendingFlag = false ∧ (waitingWith .request [] 16).standing.successor = false) ∧
    (let s := waitingWith .target [] 15;
      s.batch.schedule = [{ batch58 with closing := some ⟨.target, 0, false, false⟩ }] ∧
      s.tickets.length < 16 ∧ 16 ≤ (waitingWith .target [] 16).tickets.length ∧
      s.cond.entries.length = 121) ∧
    ((asks two 13 (field 4 4102)).Requests 13 (req 13 (field 4 4102)) (field 4 4102) ∧
      two.batch.schedule = [batch58] ++ queued4102 :: [] ∧ queued4102.nomination = natAt 0 4 (field 4 4102) ∧
      (∀ a ∈ two.batch.schedule, a.nomination ≠ natAt 0 4 (field 4 4103)) ∧
      batch58.nomination = natAt 0 4 (field 4 4101) ∧ two.mgmt.device ≠ .uncommissioned ∧
      resting.mgmt.device = .uncommissioned ∧ CloseCause.request ≠ .target ∧
      (waitingWith .target [queued4102] 0).batch.schedule =
        [{ batch58 with closing := some ⟨.target, 0, false, false⟩ }, queued4102] ∧
      2 ≤ ([batch58] ++ [queued4102]).length) ∧
    ((asks two 15 (amendment 4102 none)).Requests 15 (req 15 (amendment 4102 none)) (amendment 4102 none) ∧
      (amendment 4102 none).length = 9 ∧ optionalAt 4 4 (amendment 4102 none) = none ∧
      optionalAt 4 4 (amendment 4101 (some 999999999)) = some 999999999 ∧ batch58.nsv < 999999999 * 1000 ∧
      optionalAt 4 4 (amendment 4101 (some 1000000000)) = some 1000000000 ∧
      optionalAt 4 4 (amendment 4101 (some 0)) = some 0) ∧
    (let b := batch58.bookRun .n1 fun a => { a with nsv := 1000 };
      optionalAt 4 4 (amendment 4101 (some 1)) = some 1 ∧ 1 * 1000 ≤ b.nsv ∧ b.closing = none ∧
      b.seq = some 58 ∧
      (waitingWith .target [] 0).batch.schedule.all (fun b => b.closing.isSome) = true) :=
  ⟨by decide +kernel, by decide, by decide +kernel, by decide +kernel, by decide⟩

theorem witness_CloseBatchMakesATicket :
    (asks two 14 []).Requests 14 (req 14 []) [] ∧ two.mgmt.device ≠ .uncommissioned ∧
    two.batch.schedule = batch58 :: [queued4102] ∧ batch58.closing = none ∧ batch58.seq = some 58 ∧
    ({ two with tickets := List.replicate 15 (ticketOf 1) } : State).tickets.length < 16 ∧
    two.activeProve = none ∧
    (let s := { two with prover := proving.prover };
      s.activeProve = some .n1 ∧ (s.prove .n1).state = .active .n1 86250 0 [] 300000 ∧
      s.prover.queue = [.n2] ∧ queued4102.set = .n1 ∧
      ({ queued4102 with set := .n2 } : BatchEntry).set ≠ .n1) := by decide

/-- The prover stays in order whatever the schedule holds. -/
theorem witness_CloseBatchMakesATicket_ordered :
    ({ two with prover := proving.prover } : State).ProverOrdered :=
  ⟨proving_ordered.once, proving_ordered.queued, proving_ordered.single, proving_ordered.behind⟩

theorem witness_CommissionAndDecommission :
    (asks resting 34 []).Requests 34 (req 34 []) [] ∧ resting.mgmt.device = .uncommissioned ∧
    resting.batch.schedule = { batch58 with seq := none } :: [] ∧
    (asks two 35 []).Requests 35 (req 35 []) [] ∧ two.mgmt.device = .measuring ∧
    (∀ r, (two.prove r).state = .none) ∧ two.prover.queue = [] ∧ two.tickets.length < 16 ∧
    16 ≤ ({ two with tickets := List.replicate 16 (ticketOf 1) } : State).tickets.length :=
  ⟨by decide, rfl, rfl, by decide, rfl, fun r => by cases r <;> rfl, rfl, by decide, by decide⟩

theorem witness_InterfaceTimerExpires :
    metering.held = false ∧ (metering.setDetector (.timing 60000)).batch.detector = .timing 60000 ∧
    metering.activeBatch = some batch58 ∧ batch58.closeOnInterface = false ∧
    (let b : BatchEntry := { batch58 with closeOnInterface := true };
      (metering.withBatch b).batch.schedule = b :: [] ∧ (metering.withBatch b).activeBatch = some b ∧
      b.closing = none ∧ b.seq = some 58 ∧
      ({ b with closing := some ⟨.target, 0, false, false⟩ } : BatchEntry).closing.isSome = true) ∧
    ({ metering with tickets := List.replicate 15 (ticketOf 1) } : State).tickets.length < 16 ∧
    16 ≤ ({ metering with tickets := List.replicate 16 (ticketOf 1) } : State).tickets.length ∧
    metering.cond.entries.length = 121 ∧ two.batch.schedule = batch58 :: queued4102 :: [] := by
  decide +kernel

/-- A SEED_TOTALS of run 1 at both ends of the range. -/
def seeds : List Byte :=
  1 :: (signedField 8 9999999999999999 ++ signedField 8 0 ++ signedField 8 9999999999999999 ++ signedField 8 0)

theorem witness_ReleaseTicketAndSeedTotals :
    (let s : State := { ready with tickets := [ticketOf 46, ticketOf 47] };
      (asks s 18 (field 4 46)).Requests 18 (req 18 (field 4 46)) (field 4 46) ∧
      s.tickets = ticketOf 46 :: [ticketOf 47] ∧ (ticketOf 46).seq = natOf (field 4 46) ∧
      s.closePendingFlag = false ∧ (ticketOf 46).seq ≠ natOf (field 4 47) ∧
      (ticketOf 47).seq = natOf (field 4 47) ∧ (ticketOf 47).seq ≠ natOf (field 4 48)) ∧
    (asks resting 20 seeds).Requests 20 (req 20 seeds) seeds ∧ seeds.length = 33 ∧
    runAt 0 seeds = some .n1 ∧
    (∀ i ∈ [0, 1, 2, 3], 0 ≤ intAt (1 + 8 * i) 8 seeds ∧ intAt (1 + 8 * i) 8 seeds ≤ 9999999999999999) ∧
    ready.tickets = [] ∧ runAt 0 (seeds.set 0 5) = none ∧ intAt (1 + 8 * 0) 8 (seeds.set 1 128) < 0 ∧
    9999999999999999 < intAt (1 + 8 * 0) 8 (seeds.set 8 0 |>.set 6 255) ∧
    metering.mgmt.device ≠ .uncommissioned ∧
    (let s := waitingWith .request [] 16;
      s.tickets = ticketOf 1 :: List.replicate 15 (ticketOf 1) ∧ (ticketOf 1).seq = natOf (field 4 1) ∧
      s.mgmt.device ≠ .uncommissioned ∧ (List.replicate 15 (ticketOf 1)).length < 16 ∧
      s.batch.schedule = { batch58 with closing := some ⟨.request, 0, false, false⟩ } :: [] ∧
      batch58.seq = some 58 ∧ CloseCause.request ≠ .target ∧ CloseCause.request ≠ .decommission) := by
  decide +kernel

/-! ### Witnesses: proving -/

/-- A result pending acceptance. -/
def result1 : ProveResult := ⟨1001201, 3705000, 1001182, false, false, 1000019, some 51⟩

theorem witness_ConfigureProverAndClearShift :
    ((asks metering 21 prover62.bytes).Requests 21 (req 21 prover62.bytes) prover62.bytes ∧
    prover62.bytes.length = 38 ∧ (proverConfigOf prover62.bytes).inRange = true ∧
    metering.proveInProgress = false ∧
    (asks metering 27 [4, 4]).Requests 27 (req 27 [4, 4]) [4, 4] ∧ (metering.prove .n4).state = .none ∧
    (proving.prove .n2).state = .queued ∧ (proving.prove .n1).state ≠ .none ∧
    (proving.prove .n1).state ≠ .queued ∧ Num4.ofNat? (0 : Byte).toNat = none ∧
    (proverConfigOf { prover62 with passes := 2 }.bytes).inRange = false ∧
      (proving.prove .n1).state = .active .n1 86250 0 [] 300000 ∧
      ((metering.withProve (.pendingAccept .n1 86250 5 result1 3600000)).prove .n1).state =
        .pendingAccept .n1 86250 5 result1 3600000) ∧
    (∀ r, (metering.prove r).state = .none ∨ (metering.prove r).state = .queued) :=
  ⟨by decide +kernel, fun r => by cases r <;> exact .inl rfl⟩

theorem witness_RequestProve :
    (asks metering 22 [1]).Requests 22 (req 22 [1]) [1] ∧ metering.mgmt.device = .measuring ∧
    metering.prover.config = some prover62 ∧ metering.activeBatch = some batch58 ∧
    (metering.prove .n1).state = .none ∧ metering.activeProve = none ∧ metering.prover.queue = [] ∧
    (metering.run .n1).state = .metering ∧
    ((metering.withRun { run1 with state := .idle }).run .n1).state = .idle ∧
    (metering.setProve .n3 ⟨.active .n1 86250 0 [] 300000, none⟩).activeProve = some .n3 := by decide

theorem witness_PendingProveEnds :
    (let s := metering.withProve (.pendingAccept .n1 86250 5 result1 3600000);
      (s.prove .n1).state = .pendingAccept .n1 86250 5 result1 3600000 ∧
      (asks s 24 [1]).Requests 24 (req 24 [1]) [1] ∧ s.mgmt.device ≠ .uncommissioned ∧
      s.batch.schedule = batch58 :: [] ∧
      ({ batch58 with proves := List.replicate 7 ⟨.n1, 1000000, 0⟩ } : BatchEntry).proves.length < 8 ∧
      8 ≤ ({ batch58 with proves := List.replicate 8 ⟨.n1, 1000000, 0⟩ } : BatchEntry).proves.length ∧
      (asks s 25 [1]).Requests 25 (req 25 [1]) [1] ∧ s.held = false) := by decide

theorem witness_ActiveProveEnds :
    ((let s := metering.withProve (.active .n1 86250 0 [] 300000);
        (s.prove .n1).state = .active .n1 86250 0 [] 300000 ∧ s.prover.queue = [] ∧ s.held = false ∧
        s.activeProve = some .n1 ∧ (asks s 23 [1]).Requests 23 (req 23 [1]) [1]) ∧
      (asks proving 23 [2]).Requests 23 (req 23 [2]) [2] ∧ (proving.prove .n2).state = .queued ∧
      proving.activeProve = some .n1 ∧ proving.prover.queue = .n2 :: [] ∧
      (proving.run .n2).state ≠ .metering ∧ ((proving.setRun .n2 run1).run .n2).state = .metering ∧
      proving.activeBatch = some batch58 ∧ proving.prover.config = some prover62) ∧
    proving.ProverOrdered := ⟨by decide, proving_ordered⟩

/-- A PASS frame with its four figures. -/
def passWith (np : Nat) (tp : Int) (pp : Nat) (status : Nat) : Frame :=
  sample kindPass ([15, 1, 2, 2] ++ field 4 np ++ signedField 4 tp ++ field 4 pp ++ byte status)

/-- The meter volume of a pass of run 1 at a K-factor, and its MF_pass. -/
def passVolumes (kmilli np : Nat) : Nat × Nat :=
  let pass := (passWith np 3260 13800 0).pass
  let gsvm := meterVolume kmilli pass.np (gridLookup set1 (metering.tempInUse .n1).value 86250)
    (metering.presInUse .n1).value.toNat
  (gsvm, roundNat (proverVolume prover62 pass (gridLookup set1 pass.tp 86250) * 1000000) gsvm)

theorem witness_PassFrameStrayAndInvalid :
    ((withHead metering (pass2 2 1)).Samples kindPass (pass2 2 1) 6
      ⟨15, .prover, { counting with base := none, lastPass := some 1 }⟩ ∧
    classify counting.last (pass2 2 1).seqEpoch ≠ .discarded ∧ metering.activeProve = none ∧
    (metering.withProve (.active .n1 86250 13 [] 300000)).activeProve = some .n1 ∧
    metering.prover.config = some prover62 ∧ 1 ≤ prover62.passes ∧
    natAt 16 1 (pass2 2 1).payload ≠ 0 ∧ 13 + 1 < prover62.maxPasses ∧ prover62.maxPasses ≤ 14 + 1 ∧
    metering.prover.queue = [] ∧ natAt 4 4 (passWith 0 3260 13800 0).payload = 0 ∧
    intAt 8 4 (passWith 1 (-5001) 13800 0).payload < -5000 ∧
    15000 < intAt 8 4 (passWith 1 15001 13800 0).payload ∧
    200000 < natAt 12 4 (passWith 1 3260 200001 0).payload ∧
    passVolumes 100000000000 1 = (0, 0) ∧ (passVolumes 2400000 9592170).2 = 1001201 ∧
    (passVolumes 2400000 14000000).2 < 800000 ∧ 1200000 < (passVolumes 2400000 8000000).2 ∧
    metering.mgmt.device ≠ .uncommissioned ∧ resting.mgmt.device = .uncommissioned) ∧
    (withHead metering (pass2 2 1)).TablesWhole :=
  ⟨by decide +kernel, metering_whole _⟩

/-- Four passes of run 1 with one meter factor. -/
def passes (mf : Nat) : List PassRecord := List.replicate 4 ⟨1, mf, 3705000, false, true⟩

/-- Run 1 proving with four passes, on a curve shift, with an auto-accept limit. -/
def fourPasses (shift limit : Nat) : State :=
  { (metering.withProve (.active .n1 86250 4 (passes 1001201) 300000)).setShift .n1 .n1 shift with
    prover := { metering.prover with
      config := some { prover62 with autoLimit := limit }
      records := metering.prover.records.set .n1 ⟨.active .n1 86250 4 (passes 1001201) 300000, none⟩ } }

/-- Set 1 with a curve so far off that the shift leaves its limits. -/
def offCurve : State :=
  (fourPasses 1000000 50).setTable .n1
    { set1 with curves := .const (.curve [⟨2000000, 1100000⟩, ⟨4000000, 1100000⟩]) }

theorem witness_PassFrameCompletesTheWindow :
    let f := pass2 2 0
    (withHead (fourPasses 1000000 50) f).Samples kindPass f 6
      ⟨15, .prover, { counting with base := none, lastPass := some 1 }⟩ ∧
    classify counting.last f.seqEpoch = .next ∧ (fourPasses 1000000 50).activeProve = some .n1 ∧
    (fourPasses 1000000 50).prover.queue = [] ∧ batch58.proves.length < 8 ∧
    (let w := nextWindow 5 5 (some 1) f.pass
        ((fourPasses 1000000 50).passRecord .n1 .n1 86250 prover62 f.pass) (passes 1001201);
      windowComplete prover62 w = true ∧
      ((fourPasses 1000000 50).formResult .n1 .n1 w).shift = 1000019 ∧
      ((fourPasses 1000000 50).formResult .n1 .n1 w).deviationFrom 1000000 = 19 ∧
      50 < ((fourPasses 1000000 50).formResult .n1 .n1 w).deviationFrom 1000100 ∧
      (offCurve.formResult .n1 .n1 w).shift < 950000) := by decide +kernel

/-! ### Witnesses: conditions, time and the outbound link -/

theorem witness_EntryTransitions :
    metering.mgmt.device ≠ .uncommissioned ∧
    CondKind.strayPass.entry 1 ≤ metering.cond.entries.length ∧ CondKind.strayPass.entry 1 = 121 ∧
    CondKind.seqGap.entry 1 = 1 ∧ metering.cond.levels.get CondKind.strayPass.cls ≠ 0 ∧
    (metering.entry 121).state ≠ .activeUnack ∧ metering.cond.entries.length = 121 := by decide

theorem witness_AcknowledgeAndSetLevels :
    ((asks metering 28 [0]).Requests 28 (req 28 [0]) [0] ∧
      (asks metering 28 [1, 2, 1, 121]).Requests 28 (req 28 [1, 2, 1, 121]) [1, 2, 1, 121] ∧
      ([1, 2, 1, 121] : List Byte) = 1 :: BitVec.ofNat 8 [1, 121].length :: [1, 121] ∧
      (∀ n ∈ ([1, 121] : List Byte), 1 ≤ n.toNat ∧ n.toNat ≤ 121) ∧ metering.cond.entries.length = 121 ∧
      (asks metering 28 [1, 0]).Requests 28 (req 28 [1, 0]) [1, 0] ∧
      64 < (List.replicate 65 (1 : Byte)).length ∧ 121 < (122 : Byte).toNat ∧ (0 : Byte).toNat = 0) ∧
    (let p : List Byte := [0, 3, 0, 3, 0, 3, 0, 3];
      (asks metering 29 p).Requests 29 (req 29 p) p ∧ ∀ i < 8, natAt i 1 p ≤ 3) ∧
    (∃ i < 8, 3 < natAt i 1 ([0, 0, 0, 0, 0, 0, 0, 4] : List Byte)) := by decide +kernel

theorem witness_StationTime :
    (asks ready 37 [255, 255, 255, 255]).Requests 37 (req 37 [255, 255, 255, 255]) [255, 255, 255, 255] ∧
    ready.held = false := by decide

theorem witness_RestartBringsRestartValues :
    (asks resting 36 []).Requests 36 (req 36 []) [] ∧ resting.mgmt.device = .uncommissioned := by decide

/-- A plan of one slot that names two sources, and one of three slots that names them all. -/
def plan3 : List Byte :=
  3 :: ([0, 1, 2, 4, 3, 4] ++ List.replicate 10 0 ++ field 4 1000)

theorem witness_PolicyAndSlotPlanAreReplaced :
    (asks ready 31 [2]).Requests 31 (req 31 [2]) [2] ∧
    [Policy.hold, .dropNewest, .dropOldestSample][(2 : Byte).toNat]? = some .dropOldestSample ∧
    (asks ready 32 plan3).Requests 32 (req 32 plan3) plan3 ∧ plan3.length = 21 ∧
    (List.range (natAt 0 1 plan3)).mapM (planSlotOf plan3) =
      some [⟨.forward, .result⟩, ⟨.response, .none⟩, ⟨.condition, .none⟩] ∧
    natAt 17 4 plan3 = 1000 ∧
    planNames [⟨.forward, .result⟩, ⟨.response, .none⟩, ⟨.condition, .none⟩] .condition = true ∧
    ({ ready.outbound with sending := some foreign } : OutboundPort).sending = some foreign := by
  decide +kernel

/-- A SET_REPORTING at the ends of its ranges, every slot PERIODIC. -/
def reporting (period : Nat) : List Byte :=
  field 4 period ++ (List.replicate 4 ([1, 0, 0, 0] ++ field 4 99999999)).flatten ++ [1, 0, 0, 0] ++
    field 4 70000

theorem witness_ReportingPeriod :
    (asks ready 33 (reporting 100)).Requests 33 (req 33 (reporting 100)) (reporting 100) ∧
    (reporting 100).length = 44 ∧ natAt 0 4 (reporting 100) = 100 ∧ natAt 0 4 (reporting 60000) = 60000 ∧
    natAt 0 4 (reporting 0) = 0 ∧
    (∀ i ∈ [0, 1, 2, 3], natAt (8 + 8 * i) 4 (reporting 100) ≤ 99999999) ∧
    natAt 40 4 (reporting 100) ≤ 70000 ∧
    ({ ready.reports with timer := some 100 } : ReportUnit).timer = some 100 ∧
    ({ ready.reports.runSlots.n1 with periodic := true }).periodic = true ∧
    ready.reports.headerSlot.periodic = false ∧ ({ pendingSlot with coalesce := 255 }).pending = true := by
  decide +kernel

/-- The downstream line asserted. -/
def sending (s : State) : State := { s with outbound := { s.outbound with downstreamReady := true } }

/-- The slot at the pointer supplies the frame. -/
theorem finds_at_pointer {s : State} {slot : PlanSlot} {x : Source}
    (pointer : 1 ≤ s.outbound.pointer ∧ s.outbound.pointer ≤ s.outbound.plan.length)
    (here : s.slotPast 0 = some slot) (supply : s.slotSupply slot = some x) : s.Finds 0 x :=
  { pointer, once := by omega, passed := fun n h => absurd h (Nat.not_lt_zero n), found := ⟨slot, here, supply⟩ }

/-- The slot at the pointer supplies nothing, and the next one does. -/
theorem finds_after_pointer {s : State} {first slot : PlanSlot} {x : Source}
    (pointer : 1 ≤ s.outbound.pointer ∧ s.outbound.pointer ≤ s.outbound.plan.length)
    (once : 1 < s.outbound.plan.length) (here : s.slotPast 0 = some first)
    (nothing : s.slotSupply first = none) (next : s.slotPast 1 = some slot)
    (supply : s.slotSupply slot = some x) : s.Finds 1 x where
  pointer := pointer
  once := once
  passed n h y e := by
    obtain rfl : n = 0 := by omega
    rw [here] at e
    cases e
    exact nothing
  found := ⟨slot, next, supply⟩

/-- A frame to forward, its slot the one after the pointer. -/
def forwarding : State :=
  sending { ready with forward := [foreign], outbound := { ready.outbound with pointer := 4 } }

theorem witness_ForwardedFrameIsSentUnchanged :
    (forwarding.held = false ∧ forwarding.forward = foreign :: [] ∧ forwarding.outbound.sending = none ∧
      forwarding.outbound.downstreamReady = true ∧ forwarding.pointerPast 1 = 2 ∧
      ({ ready.outbound with sending := some foreign } : OutboundPort).sending = some foreign ∧
      ready.outbound.downstreamReady = false) ∧
    forwarding.Finds 1 .forward :=
  ⟨by decide, finds_after_pointer (first := ⟨.condition, .result⟩) (slot := ⟨.forward, .result⟩)
    (by decide) (by decide) rfl (by decide +kernel) rfl (by decide +kernel)⟩

/-- A response to send, after a frame of a kind. -/
def answering (previous : PreviousKind) : State :=
  sending { ready with
    responses := [⟨0, 7, 38, .done, []⟩], outbound := { ready.outbound with pointer := 2, previous := previous } }

theorem witness_ResponsesTakeTurns :
    ((answering .other).held = false ∧ (answering .other).responses = ⟨0, 7, 38, .done, []⟩ :: [] ∧
      (answering .other).outbound.sending = none ∧ (answering .other).outbound.downstreamReady = true) ∧
    (answering .other).Finds 0 .response ∧ (answering .response).Finds 0 .response :=
  ⟨by decide, finds_at_pointer (slot := ⟨.response, .condition⟩) (by decide) rfl (by decide +kernel),
    finds_at_pointer (slot := ⟨.response, .condition⟩) (by decide) rfl (by decide +kernel)⟩

/-- Selection 3 of Figure 9-1: two responses wait after a response, entry 92 is pending, and the pointer is at
slot 3. -/
def selection3 : State :=
  sending ({ metering with
    responses := List.replicate 2 ⟨0, 7, 38, .done, []⟩
    outbound := { metering.outbound with pointer := 3, previous := .response } }.raise .pulseMismatch 2)

/-- Figure 9-1, selection 3: slot 3 supplies nothing, slot 4 sends the report, and the pointer is at slot 1. -/
theorem test_selection_passes_over_a_slot :
    (after .transmissionStart selection3).map (fun t =>
        (t.outbound.pointer, t.responses.length, (t.entry 92).pending, t.outbound.sending.map (·.kind))) =
      some (1, 2, false, some kindReport) := by decide +kernel

/-- A run snapshot to send. -/
def snapped : State :=
  { sending metering with outbound := { (sending metering).outbound with pointer := 4 } }.trigger (.run .n1)

/-- A header snapshot to send. -/
def headed : State :=
  { sending metering with outbound := { (sending metering).outbound with pointer := 4 } }.trigger .header

theorem witness_SnapshotAndReportAreSent :
    (snapped.held = false ∧ snapped.reports.order = .run .n1 :: [] ∧
      (snapped.reports.runSlots.get .n1).content = some (metering.captureRun .n1) ∧
      snapped.outbound.sending = none ∧ snapped.outbound.downstreamReady = true ∧
      headed.reports.order = .header :: [] ∧ headed.reports.headerSlot.content = some metering.captureHeader ∧
      selection3.conditionOffer = some (.entry 92) ∧ selection3.outbound.sending = none ∧
      selection3.outbound.downstreamReady = true ∧ metering.conditionOffer = none ∧
      selection3.pends (.entry 92) = true ∧ 1 ≤ selection3.cond.raiseSeq) ∧
    snapped.Finds 0 .result ∧ headed.Finds 0 .result ∧ selection3.Finds 1 .condition :=
  ⟨by decide +kernel, finds_at_pointer (slot := ⟨.condition, .result⟩) (by decide) rfl (by decide +kernel),
    finds_at_pointer (slot := ⟨.condition, .result⟩) (by decide) rfl (by decide +kernel),
    finds_after_pointer (first := ⟨.forward, .response⟩) (slot := ⟨.condition, .result⟩)
      (by decide) (by decide) rfl (by decide +kernel) rfl (by decide +kernel)⟩

/-- Node 5 with DEVICE_STATE pending and CONDITION at the pointer. -/
def noticed : State :=
  { ready.noticeEvent .deviceState (.deviceState .measuring) with
    outbound := { ready.outbound with downstreamReady := true, pointer := 4 } }

theorem witness_NoticeEvents :
    (metering.cond.levels.notice ≠ 0 ∧ (metering.notice .deviceState).pending = false ∧
    (noticed.notice .deviceState).pending = true ∧
    ({ metering.cond.levels with notice := 0 } : Levels).notice = 0 ∧
    (asks resting 34 []).Requests 34 (req 34 []) [] ∧ resting.mgmt.device = .uncommissioned ∧
    resting.batch.schedule = { batch58 with seq := none } :: [] ∧
    (resting.notice .batchChanged).pending = false ∧
    (asks two 14 []).Requests 14 (req 14 []) [] ∧ two.mgmt.device ≠ .uncommissioned ∧
    two.batch.schedule = batch58 :: [queued4102] ∧ two.tickets.length < 16 ∧ two.activeProve = none ∧
    (two.notice .ticketClosed).pending = false ∧ noticed.held = false ∧
    noticed.conditionOffer = some (.notice .deviceState) ∧
      noticed.outbound.sending = none ∧ noticed.outbound.downstreamReady = true) ∧
    noticed.Finds 0 .condition :=
  ⟨by decide +kernel, finds_at_pointer (slot := ⟨.condition, .result⟩) (by decide) rfl (by decide +kernel)⟩

theorem witness_IdleFrameOnAQuietLink :
    (sending ready).held = false ∧ (sending ready).outbound.sending = none ∧
    (sending ready).outbound.downstreamReady = true ∧
    (∀ slot ∈ (sending ready).outbound.plan, (sending ready).slotSupply slot = none) ∧
    (sending ready).ownNode = some 5 ∧
    (let s := sending { ready with mgmt := { ready.mgmt with nodeAddress := 240 } };
      s.ownNode = none ∧ ∀ slot ∈ s.outbound.plan, s.slotSupply slot = none) := by decide +kernel

end Sys2Proof.Tests
end

section
/-!
The bounds of every bounded collection, block by block: what each operation of the model, each request
owner and each command keeps of them, and from that the invariant of every step (R1, R77, R78, R104, R108,
R115, R116, R125, R140, R155, R162, R164, R165, R174).
-/

namespace Sys2Proof.Machine

/-! ### The bounds by block -/

/-- The prove queue lists the QUEUED runs once each, and a pass window holds at most N passes (R116, R125). -/
structure ProverUnit.Orderly (u : ProverUnit) : Prop where
  once : u.queue.Nodup
  queued : ∀ r, r ∈ u.queue ↔ (u.records.get r).state = .queued
  window : ∀ r k rho count w timer, (u.records.get r).state = .active k rho count w timer →
    ∃ c, u.config = some c ∧ w.length ≤ c.passes

/-- The result order lists the pending snapshot slots once each (R174). -/
structure ReportUnit.Orderly (u : ReportUnit) : Prop where
  once : u.order.Nodup
  runs : ∀ r, .run r ∈ u.order ↔ (u.runSlots.get r).pending = true
  header : .header ∈ u.order ↔ u.headerSlot.pending = true

/-- The slot plan has one to eight slots and its pointer names one of them (R165). -/
structure OutboundPort.Orderly (u : OutboundPort) : Prop where
  plan : 1 ≤ u.plan.length ∧ u.plan.length ≤ 8
  pointer : 1 ≤ u.pointer ∧ u.pointer ≤ u.plan.length

/-- The schedule holds at most eight entries, each with a proves list of at most eight (R77, R78). -/
structure BatchUnit.Bounded (u : BatchUnit) : Prop where
  schedule : u.schedule.length ≤ 8
  proves : ∀ b ∈ u.schedule, b.proves.length ≤ 8

/-- The Ticket Store holds at most sixteen tickets, each with a proves list of at most eight (R104, R108). -/
structure TicketsBounded (l : List Ticket) : Prop where
  count : l.length ≤ 16
  proves : ∀ x ∈ l, x.proves.length ≤ 8

/-- `State.Capacities` block by block, the Forward Queue and the response queue within bounds of their own:
a command that appends to one of them is bounded by one less before it appends. -/
structure State.Room (forwardMax responseMax : Nat) (s : State) : Prop where
  slots : s.points.map.length = 15
  entries : s.cond.entries.length = 121
  fifo : s.inbound.fifo.length ≤ 16
  forward : s.forward.length ≤ forwardMax
  responses : s.responses.length ≤ responseMax
  tickets : TicketsBounded s.tickets
  batch : s.batch.Bounded
  prover : s.prover.Orderly
  reports : s.reports.Orderly
  outbound : s.outbound.Orderly

variable {s t : State} {m n : Nat}

theorem State.capacities_iff_room : s.Capacities ↔ s.Room 16 8 := by
  constructor
  · intro h
    exact ⟨h.slots, h.entries, h.fifo, h.forward, h.responses, ⟨h.tickets, h.ticketProves⟩,
      ⟨h.schedule, h.proves⟩, ⟨h.proveOnce, h.proveQueued, h.window⟩,
      ⟨h.orderOnce, fun r => h.orderPending (.run r), h.orderPending .header⟩, ⟨h.plan, h.pointer⟩⟩
  · intro h
    refine ⟨⟨h.slots, h.entries⟩, h.fifo, h.forward, h.responses, h.tickets.count, h.batch.schedule, h.batch.proves,
      h.tickets.proves, h.prover.once, h.prover.queued, h.prover.window, h.reports.once, fun id => ?_,
      h.outbound.plan, h.outbound.pointer⟩
    cases id with
    | run r => exact h.reports.runs r
    | header => exact h.reports.header

theorem State.Room.of_responses {n' : Nat} (h : s.Room m n) (hr : s.responses.length ≤ n') : s.Room m n' :=
  { h with responses := hr }

/-! ### Blocks that no bound speaks of -/

theorem State.Room.setRun (h : s.Room m n) (r : RunNo) (u : RunUnit) : (s.setRun r u).Room m n := { h with }

theorem State.Room.setChain (h : s.Room m n) (r : RunNo) (c : ChainRecord) :
    (s.setChain r c).Room m n := { h with }

theorem State.Room.setTotals (h : s.Room m n) (r : RunNo) (x : Totals) : (s.setTotals r x).Room m n :=
  { h with }

theorem State.Room.setTable (h : s.Room m n) (k : SetNo) (x : TableSet) : (s.setTable k x).Room m n :=
  { h with }

theorem State.Room.setShift (h : s.Room m n) (r : RunNo) (k : SetNo) (v : Nat) :
    (s.setShift r k v).Room m n := { h with }

theorem State.Room.resetShifts (h : s.Room m n) (k : SetNo) : (s.resetShifts k).Room m n := { h with }

theorem State.Room.passTo (h : s.Room m n) (count : Nat) : (s.passTo count).Room m n := { h with }

theorem State.Room.setMgmt (h : s.Room m n) (x : Management) : ({ s with mgmt := x }).Room m n := { h with }

theorem State.Room.setDetector (h : s.Room m n) (d : Detector) : (s.setDetector d).Room m n :=
  { h with batch := ⟨h.batch.schedule, h.batch.proves⟩ }

theorem State.Room.setSlot (h : s.Room m n) (slot : Nat) (e : Option MapEntry) : (s.setSlot slot e).Room m n :=
  { h with slots := by simp [State.setSlot, h.slots] }

theorem State.Room.popHead (h : s.Room m n) : s.popHead.Room m n :=
  { h with fifo := by simpa [State.popHead] using h.fifo.trans (Nat.le_succ 16) }

theorem State.Room.mapRole (h : s.Room m n) (role : Role) (f : LiveRecord → LiveRecord) :
    (s.mapRole role f).Room m n := by
  unfold State.mapRole
  split
  · exact h.setSlot _ _
  · exact h

/-! ### Conditions, notices and the clock -/

/-- Raises and returns keep every bound: they change the level-3 count of the head entry alone. -/
theorem State.Room.raised (h : s.Room m n) (g : s.Raised t) : t.Room m n := by
  obtain ⟨f, hf, hb⟩ := g.schedule
  refine ⟨by rw [g.points]; exact h.slots, by rw [g.entries]; exact h.entries,
    by rw [g.inbound]; exact h.fifo, by rw [g.forward]; exact h.forward,
    by rw [g.responses]; exact h.responses, by rw [g.tickets]; exact h.tickets, ?_,
    by rw [g.prover]; exact h.prover, by rw [g.reports]; exact h.reports,
    by rw [g.outbound]; exact h.outbound⟩
  rw [hb]
  refine ⟨by simpa using h.batch.schedule, fun b hmem => ?_⟩
  cases hs : s.batch.schedule with
  | nil => simp [hs] at hmem
  | cons a rest =>
    have hp := h.batch.proves
    simp only [hs, List.modifyHead_cons, List.mem_cons] at hmem hp
    rcases hmem with rfl | hmem
    · rw [hf]; exact hp a (.inl rfl)
    · exact hp b (.inr hmem)

theorem State.Room.noted (h : s.Room m n) (g : s.Noted t) : t.Room m n := by
  rw [g.eq]
  exact { h with entries := by rw [g.entries]; exact h.entries }

theorem State.Room.setFlags (h : s.Room m n) (r : RunNo) (x : RunFlags) : (s.setFlags r x).Room m n :=
  (h.setChain r _).raised (s.setFlags_raised r x)

theorem State.Room.accept (h : s.Room m n) (slot : Nat) (e : MapEntry) (f : Frame) (c : Acceptance) :
    (s.accept slot e f c).Room m n :=
  (h.setSlot slot _).raised (s.accept_raised slot e f c)

theorem State.Room.judge (h : s.Room m n) : s.judge.Room m n := by
  obtain ⟨d, g, -⟩ := s.judge_effect
  exact (h.setDetector d).raised g

theorem State.Room.updateRecord (h : s.Room m n) (slot : Nat) (e : MapEntry) (x : LiveRecord) :
    (s.updateRecord slot e x).Room m n := by
  have hr := (h.setSlot slot (some { e with record := x })).raised
    (State.followRecord_raised _ slot e.record x)
  unfold State.updateRecord
  dsimp only
  split
  · exact hr.judge
  · exact hr

/-! ### Snapshots -/

theorem State.Room.withReports {u : ReportUnit} (h : s.Room m n) (hu : u.Orderly) :
    ({ s with reports := u }).Room m n := { h with reports := hu }

/-- A slot that is triggered joins the order where it was not pending, and is pending. -/
theorem State.Room.trigger (h : s.Room m n) (id : SnapId) : (s.trigger id).Room m n := by
  obtain ⟨honce, hruns, hheader⟩ := h.reports
  cases id with
  | run r =>
    refine h.withReports ?_
    have key : ∀ q, ((s.reports.runSlots.set r ((s.reports.runSlots.get r).triggered (s.captureRun r))).get
        q).pending = true ↔ q = r ∨ .run q ∈ s.reports.order := fun q => by
      by_cases hq : q = r
      · subst hq; simp [SnapSlot.triggered]
      · simp [Four.get_set_of_ne _ _ hq, hq, hruns]
    unfold ReportUnit.join
    split
    · next hp =>
      refine ⟨honce, fun q => ?_, hheader⟩
      rw [key]
      exact ⟨.inr, fun hq => hq.elim (fun e => e ▸ (hruns r).2 hp) id⟩
    · next hp =>
      have hr : SnapId.run r ∉ s.reports.order := fun hmem => hp ((hruns r).1 hmem)
      refine ⟨List.nodup_append.2 ⟨honce, by simp, ?_⟩, fun q => ?_, by simpa using hheader⟩
      · rintro a ha b hb rfl
        simp only [List.mem_singleton] at hb
        exact hr (hb ▸ ha)
      · rw [key]
        simp [or_comm]
  | header =>
    refine h.withReports ?_
    unfold ReportUnit.join
    split
    · next hp => exact ⟨honce, hruns, by simp [SnapSlot.triggered, hheader.2 hp]⟩
    · next hp =>
      have hr : SnapId.header ∉ s.reports.order := fun hmem => hp (hheader.1 hmem)
      refine ⟨List.nodup_append.2 ⟨honce, by simp, ?_⟩, by simpa using hruns, by simp [SnapSlot.triggered]⟩
      rintro a ha b hb rfl
      simp only [List.mem_singleton] at hb
      exact hr (hb ▸ ha)

theorem State.Room.triggerAll (h : s.Room m n) (x : Trigger) : (s.triggerAll x).Room m n := by
  unfold State.triggerAll
  generalize SnapId.all = ids
  induction ids generalizing s with
  | nil => exact h
  | cons id ids ih =>
    simp only [List.foldl_cons]
    split
    · exact ih (h.trigger id)
    · exact ih h

theorem State.Room.reportHandOff (h : s.Room m n) (r : RunNo) : (s.reportHandOff r).Room m n := by
  unfold State.reportHandOff
  split
  · split
    · exact h.trigger _
    · exact h
  · exact h

theorem State.Room.densityHandOff (h : s.Room m n) (v : Int) : (s.densityHandOff v).Room m n := by
  unfold State.densityHandOff
  split
  · exact h.trigger _
  · exact h

/-! ### Proves -/

/-- One run's record is replaced and the queue follows it: the order is kept where the new queue still
lists the other runs as before, and that run exactly where its record is QUEUED. -/
theorem ProverUnit.Orderly.replace {u : ProverUnit} (h : u.Orderly) {r : RunNo} {p : ProveRecord}
    {queue : List RunNo} (hq : queue.Nodup) (hother : ∀ q, q ≠ r → (q ∈ queue ↔ q ∈ u.queue))
    (hself : r ∈ queue ↔ p.state = .queued)
    (hwindow : ∀ k rho count w timer, p.state = .active k rho count w timer →
      ∃ c, u.config = some c ∧ w.length ≤ c.passes) :
    ({ u with queue := queue, records := u.records.set r p }).Orderly := by
  refine ⟨hq, fun q => ?_, fun q k rho count w timer hact => ?_⟩
  · by_cases hqr : q = r
    · subst hqr; simpa using hself
    · simpa [Four.get_set_of_ne _ _ hqr, hother q hqr] using h.queued q
  · by_cases hqr : q = r
    · subst hqr; exact hwindow k rho count w timer (by simpa using hact)
    · exact h.window q k rho count w timer (by simpa [Four.get_set_of_ne _ _ hqr] using hact)

theorem State.Room.withProver {u : ProverUnit} (h : s.Room m n) (hu : u.Orderly) :
    ({ s with prover := u }).Room m n := { h with prover := hu }

theorem State.Room.endRecord (h : s.Room m n) (r : RunNo) (o : ProveOutcome) (x : Option ProveResult) :
    (s.endRecord r o x).state.Room m n :=
  h.withProver (h.prover.replace (p := ⟨.none, _⟩) (h.prover.once.filter _)
    (fun q hq => by simp [hq]) (by simp) (fun _ _ _ _ _ hact => nomatch hact))

theorem tryQueue_room (l : List RunNo) (h : s.Room m n) (hl : s.prover.queue = l) :
    (tryQueue l s).state.Room m n := by
  induction l generalizing s with
  | nil =>
    have : (tryQueue [] s).state = s := by
      show { s with prover := { s.prover with queue := [] } } = s
      rw [← hl]
    rw [this]
    exact h
  | cons r rest ih =>
    have hnd : r ∉ rest ∧ rest.Nodup := List.nodup_cons.1 (hl ▸ h.prover.once)
    unfold tryQueue
    split
    · next b c _ _ hc =>
      refine h.withProver (h.prover.replace (r := r) hnd.2 (fun q hq => by simp [hl, hq]) ?_ ?_)
      · exact ⟨fun hr => absurd hr hnd.1, fun hp => nomatch hp⟩
      · rintro k rho count w timer hact
        obtain ⟨-, -, -, rfl, -⟩ := ProveState.active.inj hact
        exact ⟨c, hc, Nat.zero_le _⟩
    · refine ih (h.endRecord r .notFlowing none) ?_
      show s.prover.queue.filter _ = rest
      rw [hl]
      simp only [ne_eq, decide_not, List.filter_cons, decide_true, Bool.not_true]
      exact List.filter_eq_self.2 fun q hq => by simpa using fun e : q = r => hnd.1 (e ▸ hq)

theorem State.Room.tryHead (h : s.Room m n) : s.tryHead.state.Room m n := by
  unfold State.tryHead
  split
  · exact h
  · exact tryQueue_room _ h rfl

theorem State.Room.endProve (h : s.Room m n) (r : RunNo) (o : ProveOutcome) (x : Option ProveResult) :
    (s.endProve r o x).state.Room m n := by
  unfold State.endProve
  dsimp only
  split
  · exact (h.endRecord r o x).tryHead
  · exact h.endRecord r o x

theorem State.Room.endAllProves (h : s.Room m n) : s.endAllProves.state.Room m n := by
  unfold State.endAllProves
  suffices g : ∀ (l : List RunNo) (w : Work), w.state.Room m n →
      (l.foldl (fun w r => w.andThen fun s =>
        if (s.prove r).state = .none then s.work else s.endRecord r .abortedDecommission none) w).state.Room
          m n from g _ s.work h
  intro l
  induction l with
  | nil => exact fun w hw => hw
  | cons r l ih =>
    intro w hw
    refine ih _ ?_
    show (if (w.state.prove r).state = .none then w.state.work
      else w.state.endRecord r .abortedDecommission none).state.Room m n
    split
    · exact hw
    · exact hw.endRecord ..

theorem State.Room.gradeCheck (h : s.Room m n) (k : SetNo) : (s.gradeCheck k).state.Room m n := by
  unfold State.gradeCheck
  split
  · split
    · exact h
    · exact h.endProve ..
  · exact h

/-! ### Batches -/

theorem State.Room.withBatch {u : BatchUnit} (h : s.Room m n) (hu : u.Bounded) :
    ({ s with batch := u }).Room m n := { h with batch := hu }

theorem State.Room.mapActive (h : s.Room m n) {f : BatchEntry → BatchEntry}
    (hf : ∀ b, b.proves.length ≤ 8 → (f b).proves.length ≤ 8) : (s.mapActive f).Room m n := by
  unfold State.mapActive
  split
  · exact h
  · split
    · exact h
    · next b rest hs =>
      have hb := h.batch
      obtain ⟨hlen, hproves⟩ := hb
      rw [hs] at hlen hproves
      refine h.withBatch ⟨hlen, ?_⟩
      simp only [List.forall_mem_cons] at hproves ⊢
      exact ⟨hf b hproves.1, hproves.2⟩

theorem State.Room.applyShift (h : s.Room m n) (r : RunNo) (k : SetNo) (v : Nat) :
    (s.applyShift r k v).Room m n := by
  refine (h.setShift r k v).mapActive fun b hb => ?_
  unfold BatchEntry.listProve
  split
  · next hlt =>
    simp only [List.length_append, List.length_singleton]
    exact hlt
  · exact hb

theorem State.Room.detectorAfresh (h : s.Room m n) : s.detectorAfresh.Room m n := by
  unfold State.detectorAfresh
  refine State.Room.judge (State.Room.setDetector ?_ _)
  split
  · exact h.raised (s.returnCond_raised .interface 1)
  · exact h

theorem State.Room.openHead (h : s.Room m n) : s.openHead.state.Room m n := by
  unfold State.openHead
  split
  · exact h
  · next b rest hs =>
    obtain ⟨hlen, hproves⟩ := h.batch
    rw [hs] at hlen hproves
    refine State.Room.triggerAll (State.Room.detectorAfresh (h.withBatch ⟨hlen, ?_⟩)) _
    simp only [List.forall_mem_cons] at hproves ⊢
    exact ⟨Nat.zero_le _, hproves.2⟩

theorem clearFlags_room (l : List RunNo) (h : s.Room m n) :
    (l.foldl (fun s r => s.setFlags r .clear) s).Room m n := by
  induction l generalizing s with
  | nil => exact h
  | cons r l ih => exact ih (h.setFlags r .clear)

theorem State.Room.decommissionComplete (h : s.Room m n) : s.decommissionComplete.state.Room m n := by
  unfold State.decommissionComplete
  dsimp only [Work.andThen, Work.map, Work.note, Work.setDevice, State.work]
  have hs := ((clearFlags_room Num4.all
    (h.setMgmt { s.mgmt with device := .uncommissioned })).detectorAfresh).triggerAll .batchChange
  split
  · exact hs.endProve ..
  · exact hs

/-- A close completes with room in the Ticket Store: one ticket joins it, and the schedule grows by none. -/
theorem State.Room.completeClose (h : s.Room m n) (ht : s.tickets.length < 16) (cause : CloseCause)
    (mark : Bool) : (s.completeClose cause mark).state.Room m n := by
  unfold State.completeClose
  split
  · exact h
  · next a rest hs =>
    obtain ⟨hlen, hproves⟩ := h.batch
    rw [hs] at hlen hproves
    simp only [List.forall_mem_cons, List.length_cons] at hlen hproves
    have hrest : (({ s with tickets := s.tickets ++ [s.makeTicket a cause] }).setSchedule rest).Room m n := by
      refine { h with
        tickets := ⟨by simpa [State.setSchedule] using ht, ?_⟩
        batch := ⟨(Nat.le_succ _).trans hlen, hproves.2⟩ }
      simp only [State.setSchedule, List.forall_mem_append, List.forall_mem_singleton]
      exact ⟨h.tickets.proves, hproves.1⟩
    have hret := (hrest.raised (State.returnCond_raised _ .overTarget 1)).raised
      (State.returnCond_raised _ .ticketStoreFull 1)
    dsimp only [Work.andThen, Work.map, Work.note, State.work]
    split
    · exact hret.decommissionComplete
    · split
      · refine (State.Room.openHead (hret.withBatch ⟨?_, ?_⟩)).gradeCheck _
        · simp
        · simp [BatchEntry.unnominated]
      · exact hret.openHead.gradeCheck _

theorem State.tickets_lt_of_clear {cause : CloseCause} {x y : Bool}
    (h : (s.obstaclesFor cause x y).clear = true) : s.tickets.length < 16 := by
  simp [Obstacles.clear, State.obstaclesFor] at h
  exact h.1

theorem State.Room.beginClose (h : s.Room m n) (cause : CloseCause) :
    (s.beginClose cause).work.state.Room m n := by
  unfold State.beginClose
  split
  · exact h
  · split
    · exact h
    · dsimp only
      split
      · next hc => exact h.completeClose (s.tickets_lt_of_clear hc) ..
      · refine State.Room.raised ?_ (State.followObstacles_raised _ ⟨false, false⟩)
        exact h.mapActive fun _ hb => hb

theorem State.Room.retestClose (h : s.Room m n) (before : Obstacles) :
    (s.retestClose before).work.state.Room m n := by
  unfold State.retestClose
  split
  · exact h
  · next b hb =>
    split
    · exact h
    · next c hc =>
      have hst : s.standing = s.obstaclesFor c.cause c.requestMark c.decommissionMark := by
        simp [State.standing, hb, hc]
      split
      · next hclear => exact h.completeClose (s.tickets_lt_of_clear (hst ▸ hclear)) ..
      · exact h.raised (State.followObstacles_raised ..)

theorem State.Room.targetCheck (h : s.Room m n) : s.targetCheck.state.Room m n := by
  unfold State.targetCheck
  split
  · exact h
  · split
    · exact h
    · split
      · exact h.beginClose _
      · exact h

end Sys2Proof.Machine
end

section
/-!
The bounds along the course of an event: sample frames, bookings and passes.
-/

namespace Sys2Proof.Machine

variable {s t : State} {m n : Nat}

/-! ### The course of an event -/

theorem State.Room.finish {w : Work} (h : w.state.Room m n) : w.finish.Room m n := h.noted w.finish_noted

theorem State.Room.closeRun (h : s.Room m n) (r : RunNo) : (s.closeRun r).state.Room m n := by
  unfold State.closeRun
  dsimp only
  have hf := State.Room.setFlags (h.setRun r
    { s.run r with state := .closed, closePending := false, closeTimer := none }) r
  split
  · exact State.Room.endProve (hf _) ..
  · exact hf _

theorem State.Room.endOfFrame (h : s.Room m n) (r : RunNo) : (s.endOfFrame r).state.Room m n := by
  unfold State.endOfFrame
  split
  · exact h.closeRun r
  · exact h

theorem State.Room.queueResponse (h : s.Room m n) (f : Frame) (x : Result) (p : List Byte) :
    (s.queueResponse f x p).Room m (n + 1) :=
  { h with responses := by simpa using h.responses }

theorem State.Room.appendForward (h : s.Room m n) (f : Frame) : (s.appendForward f).Room (m + 1) n :=
  { h with forward := by simpa using h.forward }

/-! ### Sample frames -/

theorem useValue_room (f : Frame) (slot : Nat) (e : MapEntry) (c : Acceptance) (h : s.Room m n) :
    (useValue f slot e c s).state.Room m n := by
  unfold useValue
  split
  · exact h
  · next c _ =>
    split
    · have hu := h.updateRecord slot e (s.takeValue c e.role e.record (intAt 4 4 f.payload))
      dsimp only [State.work]
      split
      · exact hu.densityHandOff _
      · exact hu
    · exact h.updateRecord ..

theorem State.Room.unbookedFrame (h : s.Room m n) (r : RunNo) (d : Counts) :
    (s.unbookedFrame r d).Room m n := by
  unfold State.unbookedFrame
  dsimp only
  split
  · exact State.Room.setFlags (h.setRun ..) ..
  · exact h.setRun ..

theorem State.Room.cutoffFrame (h : s.Room m n) (r : RunNo) (d : Counts) : (s.cutoffFrame r d).Room m n :=
  State.Room.setFlags (h.setRun ..) ..

theorem State.Room.bookFrame (h : s.Room m n) (r : RunNo) (b : BatchEntry) (k : Nat) (rate : Rate)
    (d : Counts) : (s.bookFrame r b k rate d).state.Room m n := by
  unfold State.bookFrame
  refine State.Room.targetCheck (State.Room.setChain ?_ _ _)
  refine State.Room.mapActive (State.Room.setTotals (State.Room.setFlags (h.setRun ..) ..) ..) ?_
  exact fun _ hb => hb

theorem State.Room.decideFrame (h : s.Room m n) (r : RunNo) (d : Counts) (k : Nat) (rate : Rate) :
    (s.decideFrame r d k rate).state.Room m n := by
  unfold State.decideFrame
  dsimp only
  split
  · exact h.unbookedFrame r d
  · split
    · exact h.unbookedFrame r d
    · split
      · exact h.cutoffFrame r d
      · exact h.bookFrame ..

theorem State.Room.plausibleFrame (h : s.Room m n) (r : RunNo) (d : Counts) :
    (s.plausibleFrame r d).state.Room m n := by
  unfold State.plausibleFrame
  split
  · exact State.Room.endOfFrame (h.unbookedFrame r d) r
  · exact State.Room.endOfFrame (State.Room.reportHandOff (State.Room.decideFrame (h.setChain ..) ..) r) r

theorem usePulse_room (f : Frame) (slot : Nat) (e : MapEntry) (c : Acceptance) (h : s.Room m n) :
    (usePulse f slot e c s).state.Room m n := by
  unfold usePulse
  split
  · next r _ =>
    dsimp only
    split
    · exact State.Room.endOfFrame (h.setSlot ..) r
    · split
      · exact State.Room.endOfFrame (h.raised (s.occur_raised ..)) r
      · exact State.Room.plausibleFrame (h.setSlot ..) r _
  all_goals exact h

/-- The window after a pass holds at most N passes (R125). -/
theorem nextWindow_length_le (k count : Nat) (previous : Option Nat) (p : Pass) (x : Option PassRecord)
    (w : List PassRecord) : (nextWindow k count previous p x w).length ≤ k := by
  unfold nextWindow
  cases x with
  | none => exact Nat.zero_le _
  | some x => simp only [List.length_drop]; omega

/-- A record that is not QUEUED becomes another that is not QUEUED. -/
theorem State.Room.setProve (h : s.Room m n) {r : RunNo} {p : ProveRecord}
    (hold : (s.prove r).state ≠ .queued) (hnew : p.state ≠ .queued)
    (hw : ∀ k rho count w timer, p.state = .active k rho count w timer →
      ∃ c, s.prover.config = some c ∧ w.length ≤ c.passes) : (s.setProve r p).Room m n :=
  h.withProver (h.prover.replace h.prover.once (fun _ _ => .rfl)
    ⟨fun hr => absurd ((h.prover.queued r).1 hr) hold, fun hp => absurd hp hnew⟩ hw)

theorem State.Room.completeProve (h : s.Room m n) {r : RunNo} (hold : (s.prove r).state ≠ .queued)
    (k : SetNo) (rho count : Nat) (c : ProverConfig) (w : List PassRecord) :
    (s.completeProve r k rho count c w).state.Room m n := by
  unfold State.completeProve
  extract_lets x deviation x' p waiting s'
  generalize x = y
  split
  · exact h.endProve ..
  · split
    · exact State.Room.endProve (h.applyShift ..) ..
    · refine State.Room.tryHead (h.setProve hold ?_ ?_)
      · exact fun hp => nomatch hp
      · exact fun _ _ _ _ _ hp => nomatch hp

theorem State.Room.takePass (h : s.Room m n) (r : RunNo) {c : ProverConfig}
    (hc : s.prover.config = some c) (previous : Option Nat) (p : Pass) :
    (s.takePass r c previous p).state.Room m n := by
  unfold State.takePass
  split
  · next k rho before window timer hact =>
    dsimp only
    have hset := State.Room.setProve (p := ⟨.active k rho (before + 1)
      (nextWindow c.passes (before + 1) previous p (s.passRecord r k rho c p) window)
      (s.expiryIn (c.passTimeout * 1000)), (s.prove r).lastOutcome⟩) h (r := r) (by simp [hact]) (by simp)
      fun _ _ _ _ _ hp => by
        obtain ⟨-, -, -, rfl, -⟩ := ProveState.active.inj hp
        exact ⟨c, hc, nextWindow_length_le ..⟩
    split
    · exact hset.completeProve (by simp) ..
    · split
      · exact hset.endProve ..
      · exact hset
  all_goals exact h

theorem usePass_room (f : Frame) (slot : Nat) (e : MapEntry) (c : Acceptance) (h : s.Room m n) :
    (usePass f slot e c s).state.Room m n := by
  unfold usePass State.handPass
  dsimp only
  split
  · next hc => exact State.Room.takePass (h.setSlot ..) _ hc ..
  · exact State.Room.raised (h.setSlot ..) (State.occur_raised ..)

/-- A sample frame, own-node or broadcast, keeps every bound where its use does. -/
theorem dispatchSample_room (kind : Byte) {use : Frame → Nat → MapEntry → Acceptance → State → Work}
    (huse : ∀ f slot e c {s : State} {m n : Nat}, s.Room m n → (use f slot e c s).state.Room m n)
    (h : s.Room 16 n) : (s.dispatchSample kind use).Room 16 n := by
  have point : ∀ {u : State} {m : Nat} (f : Frame) (slot : Nat) (e e' : MapEntry) (c : Acceptance),
      u.Room m n → (use f slot e' c (u.accept slot e f c)).finish.Room m n :=
    fun f slot e e' c hu => (huse f slot e' c (hu.accept slot e f c)).finish
  unfold State.dispatchSample State.whenRunning
  split
  · exact h
  · dsimp only
    split
    · exact h
    · next f rest _ =>
      split
      · split
        · split
          · split
            · exact h.popHead
            · exact point _ _ _ _ _ h.popHead
          · exact h.popHead.raised (State.occur_raised ..)
        · split
          · next hroom =>
            have hlt : s.forward.length ≤ 15 := by
              simp only [Bool.and_eq_true, State.forwardRoom, decide_eq_true_eq] at hroom
              exact Nat.le_of_lt_succ hroom.2
            have h15 : s.popHead.Room 15 n := { h.popHead with forward := hlt }
            split
            · split
              · exact h15.appendForward f
              · exact (point _ _ _ _ _ h15).appendForward f
            · exact h15.appendForward f
          · exact h
      · exact h

end Sys2Proof.Machine
end

section
/-!
The bounds at the requests of the Management Unit and at the Outbound Port.
-/

namespace Sys2Proof.Machine

variable {s t : State} {m n : Nat}

/-! ### Requests -/

/-- A request is answered within the bounds where its owner keeps them: the head waits while the response
queue is full (R158). -/
theorem dispatchRequest_room {takes : Frame → Bool} {owner : Frame → State → Answer}
    (ho : ∀ f {s : State}, s.Room 16 7 → (owner f s).work.state.Room 16 7) (h : s.Room 16 8) :
    (s.dispatchRequest takes owner).Room 16 8 := by
  unfold State.dispatchRequest State.whenRunning
  split
  · exact h
  · dsimp only
    split
    · next f hf =>
      split
      · have hlt : s.responses.length ≤ 7 := by
          unfold State.headRequest at hf
          split at hf
          · cases hf
          · split at hf
            · next hc =>
              simp only [Bool.and_eq_true, decide_eq_true_eq] at hc
              exact Nat.le_of_lt_succ hc.2
            · cases hf
        exact ((ho f (h.popHead.of_responses hlt)).finish).queueResponse ..
      · exact h
    · exact h

theorem request_room (k : Nat) {owner : List Byte → State → Answer}
    (ho : ∀ p {s : State} {n : Nat}, s.Room 16 n → (owner p s).work.state.Room 16 n) (h : s.Room 16 8) :
    (s.request k owner).Room 16 8 :=
  dispatchRequest_room (fun f s hs => by
    split
    · exact ho f.params hs
    · exact hs) h

theorem State.Room.answerDone (h : s.Room m n) (b : List Byte) : (s.answerDone b).work.state.Room m n := h

/-! Each owner refuses or reports, which keeps the state, or makes one change of the kinds above. -/

theorem mapPointRequest_room (p : List Byte) (h : s.Room m n) : (mapPointRequest p s).work.state.Room m n := by
  have hmap : ∀ slot id role, (s.mapSlot slot id role).Room m n := fun slot id role =>
    State.Room.judge (State.Room.raised (h.setSlot slot _) (State.returnLatched_raised _ slot))
  unfold mapPointRequest
  dsimp only
  repeat' split
  all_goals first | exact h | exact hmap _ _ _

theorem unmapPointRequest_room (p : List Byte) (h : s.Room m n) :
    (unmapPointRequest p s).work.state.Room m n := by
  unfold unmapPointRequest
  split
  · exact h
  · next slot e _ =>
    split
    · exact h
    · exact State.Room.judge (State.Room.raised (h.setSlot slot none) (State.returnLatched_raised _ slot))

theorem configureRunRequest_room (p : List Byte) (h : s.Room m n) :
    (configureRunRequest p s).work.state.Room m n := by
  unfold configureRunRequest
  split
  · exact h
  · next r _ =>
    dsimp only
    split
    · exact h
    · split
      · exact h
      · refine (State.Room.mapRole (State.Room.mapRole ?_ _ _) _ _).answerDone _
        split
        · exact h.setRun ..
        · exact State.Room.setChain (h.setRun ..) ..

theorem configureHeaderRequest_room (p : List Byte) (h : s.Room m n) :
    (configureHeaderRequest p s).work.state.Room m n := by
  unfold configureHeaderRequest
  dsimp only
  split
  · exact h
  · split
    · exact h
    · have hh : ({ s with points := { s.points with header := headerConfigOf p } }).Room m n := { h with }
      exact (hh.mapRole ..).answerDone _

theorem openRun_room (r : RunNo) (h : s.Room m n) : (openRun r s).work.state.Room m n := by
  unfold openRun
  dsimp only
  split
  · split
    · exact (State.Room.setFlags (h.setRun ..) ..).answerDone _
    · exact h
  all_goals exact h.setRun ..

theorem closeRunRequest_room (r : RunNo) (h : s.Room m n) : (closeRunRequest r s).work.state.Room m n := by
  unfold closeRunRequest
  dsimp only
  split
  · exact h
  · exact h
  · exact h
  · exact h.closeRun r
  · exact h.setRun ..

theorem setRunService_room (d o : Nat) {owner : RunNo → State → Answer}
    (ho : ∀ r {s : State} {n : Nat}, s.Room 16 n → (owner r s).work.state.Room 16 n) (h : s.Room 16 8) :
    (s.setRunService d o owner).Room 16 8 :=
  dispatchRequest_room (fun f s hs => by
    split
    · exact hs
    · split
      · exact hs
      · split
        · exact ho _ hs
        · exact hs) h

theorem livePoint_state (s : State) (id : Nat) : (s.livePoint id).work.state = s := by
  unfold State.livePoint
  repeat' split
  all_goals rfl

theorem readLiveRequest_state (p : List Byte) (s : State) : (readLiveRequest p s).work.state = s := by
  unfold readLiveRequest
  split
  · exact livePoint_state s _
  · split <;> rfl
  · rfl
  · rfl

theorem beginLoadRequest_room (p : List Byte) (h : s.Room m n) :
    (beginLoadRequest p s).work.state.Room m n := by
  unfold beginLoadRequest
  dsimp only
  split
  · exact h
  · split
    · exact h
    · split
      · exact h
      · exact State.Room.resetShifts (h.setTable ..) _

theorem loadSegmentRequest_room (p : List Byte) (h : s.Room m n) :
    (loadSegmentRequest p s).work.state.Room m n := by
  unfold loadSegmentRequest
  split
  · exact h
  · split
    · split
      · exact h.setTable ..
      · exact h
    · exact h

theorem commitSetRequest_room (p : List Byte) (h : s.Room m n) :
    (commitSetRequest p s).work.state.Room m n := by
  unfold commitSetRequest
  dsimp only
  repeat' split
  all_goals first | exact h | exact h.setTable ..

theorem discardSetRequest_room (p : List Byte) (h : s.Room m n) :
    (discardSetRequest p s).work.state.Room m n := by
  unfold discardSetRequest
  split
  · exact h
  · split
    · exact h
    · exact State.Room.resetShifts (h.setTable ..) _

theorem readSetInfoRequest_state (p : List Byte) (s : State) : (readSetInfoRequest p s).work.state = s := by
  unfold readSetInfoRequest
  split <;> rfl

theorem queueBatchRequest_room (p : List Byte) (h : s.Room m n) :
    (queueBatchRequest p s).work.state.Room m n := by
  unfold queueBatchRequest
  dsimp only
  split
  · split
    · exact h
    · split
      · exact h
      · split
        · exact h
        · next hlt =>
          refine State.Room.retestClose (h.withBatch ⟨?_, ?_⟩) _
          · simpa using hlt
          · simp only [List.forall_mem_append, List.forall_mem_singleton]
            exact ⟨h.batch.proves, Nat.zero_le _⟩
  · exact h

theorem cancelBatchRequest_room (p : List Byte) (h : s.Room m n) :
    (cancelBatchRequest p s).work.state.Room m n := by
  unfold cancelBatchRequest
  split
  · exact h
  · next i _ =>
    split
    · exact h
    · refine State.Room.raised (h.withBatch ⟨?_, fun b hb => ?_⟩) (State.followObstacles_raised ..)
      · exact (List.eraseIdx_sublist ..).length_le.trans h.batch.schedule
      · exact h.batch.proves b (List.mem_of_mem_eraseIdx hb)

/-- A target is amended: the proves lists stay. -/
theorem BatchUnit.Bounded.modifyTarget {u : BatchUnit} (h : u.Bounded) (i : Nat) (target : Option Nat) :
    ({ u with schedule := u.schedule.modify i fun b => { b with target := target } }).Bounded := by
  refine ⟨by simpa using h.schedule, fun b hb => ?_⟩
  obtain ⟨j, hj, rfl⟩ := List.mem_iff_getElem.1 hb
  have hp := h.proves _ (List.getElem_mem (by simpa using hj))
  rw [List.getElem_modify]
  split
  · exact hp
  · exact hp

theorem amendTargetRequest_room (p : List Byte) (h : s.Room m n) :
    (amendTargetRequest p s).work.state.Room m n := by
  unfold amendTargetRequest
  dsimp only
  split
  · exact h
  · split
    · exact h
    · next i _ =>
      have ha := h.withBatch (h.batch.modifyTarget i (optionalAt 4 4 p))
      split
      · exact ha
      · split
        · exact h
        · split
          · split
            · split
              · exact ha.beginClose _
              · exact ha.beginClose _
            · exact ha
          · exact ha

theorem CloseStep.answer_state (c : CloseStep) : c.answer.work.state = c.work.state := by
  unfold CloseStep.answer
  split <;> rfl

theorem closeBatchRequest_room (p : List Byte) (h : s.Room m n) :
    (closeBatchRequest p s).work.state.Room m n := by
  unfold closeBatchRequest
  split
  · exact h
  · split
    · rw [CloseStep.answer_state]
      exact h.beginClose _
    · split
      · rw [CloseStep.answer_state]
        refine State.Room.retestClose (h.mapActive ?_) _
        exact fun _ hb => hb
      · exact h

theorem readScheduleRequest_state (p : List Byte) (s : State) : (readScheduleRequest p s).work.state = s := by
  unfold readScheduleRequest
  repeat' split
  all_goals rfl

theorem readSection_state (s : State) (x : Option Ticket) (i : Nat) :
    (s.readSection x i).work.state = s := by
  unfold State.readSection
  repeat' split
  all_goals rfl

theorem readTicketRequest_state (p : List Byte) (s : State) : (readTicketRequest p s).work.state = s := by
  unfold readTicketRequest
  split
  · exact readSection_state ..
  · exact readSection_state ..
  · rfl

theorem releaseTicketRequest_room (p : List Byte) (h : s.Room m n) :
    (releaseTicketRequest p s).work.state.Room m n := by
  unfold releaseTicketRequest
  dsimp only
  split
  · exact h
  · next x rest hs =>
    split
    · obtain ⟨hcount, hproves⟩ := h.tickets
      rw [hs] at hcount hproves
      have hrest : ({ s with tickets := rest }).Room m n :=
        { h with tickets := ⟨(Nat.le_succ _).trans hcount, (List.forall_mem_cons.1 hproves).2⟩ }
      exact hrest.retestClose _
    · split <;> exact h

theorem readTotalsRequest_state (p : List Byte) (s : State) : (readTotalsRequest p s).work.state = s := by
  unfold readTotalsRequest
  repeat' split
  all_goals rfl

theorem seedTotalsRequest_room (p : List Byte) (h : s.Room m n) :
    (seedTotalsRequest p s).work.state.Room m n := by
  unfold seedTotalsRequest
  dsimp only
  split
  · exact h
  · split
    · exact h
    · split
      · exact h
      · exact State.Room.setChain (h.setTotals ..) ..

/-- A prover with a prove in progress is not configured anew, so no window stands under the new number of
passes (R114). -/
theorem configureProverRequest_room (p : List Byte) (h : s.Room m n) :
    (configureProverRequest p s).work.state.Room m n := by
  unfold configureProverRequest
  dsimp only
  split
  · exact h
  · split
    · exact h
    · next hidle =>
      refine h.withProver ⟨h.prover.once, h.prover.queued, fun r k rho count w timer hact => ?_⟩
      refine absurd (List.any_eq_true.2 ⟨r, r.mem_all, ?_⟩) hidle
      have : (s.prove r).state = .active k rho count w timer := hact
      rw [this]
      rfl

theorem requestProveRequest_room (p : List Byte) (h : s.Room m n) :
    (requestProveRequest p s).work.state.Room m n := by
  unfold requestProveRequest
  split
  · exact h
  · next r _ =>
    split
    · exact h
    · split
      · exact h
      · next hnone =>
        have hr : r ∉ s.prover.queue := fun hmem => by
          have hq : (s.prove r).state = .queued := (h.prover.queued r).1 hmem
          exact hnone (by simp [hq])
        have hqueued : s.prover.Orderly → ({ s.prover with
            queue := s.prover.queue ++ [r]
            records := s.prover.records.set r ⟨.queued, (s.prove r).lastOutcome⟩ }).Orderly := fun ho =>
          ho.replace (List.nodup_append.2 ⟨ho.once, by simp, fun a ha b hb e => by
            simp only [List.mem_singleton] at hb
            exact hr (hb ▸ e ▸ ha)⟩) (fun q hq => by simp [hq]) (by simp) (fun _ _ _ _ _ hp => nomatch hp)
        exact State.Room.tryHead (h.withProver (hqueued h.prover))

theorem cancelProveRequest_room (p : List Byte) (h : s.Room m n) :
    (cancelProveRequest p s).work.state.Room m n := by
  unfold cancelProveRequest
  split
  · exact h
  · split
    · exact h
    · exact h
    · exact h.endProve ..
    · exact h.endProve ..

theorem State.Room.onPending (p : List Byte) {owner : RunNo → SetNo → ProveResult → Answer} (h : s.Room m n)
    (ho : ∀ r k x, (owner r k x).work.state.Room m n) : (s.onPending p owner).work.state.Room m n := by
  unfold State.onPending
  split
  · exact h
  · split
    · exact ho ..
    all_goals exact h

theorem acceptProveRequest_room (p : List Byte) (h : s.Room m n) :
    (acceptProveRequest p s).work.state.Room m n :=
  h.onPending p fun r k x => State.Room.endProve (h.applyShift r k x.shift) r .accepted none

theorem rejectProveRequest_room (p : List Byte) (h : s.Room m n) :
    (rejectProveRequest p s).work.state.Room m n :=
  h.onPending p fun r _ _ => h.endProve r .rejected none

theorem readProveRequest_state (p : List Byte) (s : State) : (readProveRequest p s).work.state = s := by
  unfold readProveRequest
  repeat' split
  all_goals rfl

theorem clearShiftRequest_room (p : List Byte) (h : s.Room m n) :
    (clearShiftRequest p s).work.state.Room m n := by
  unfold clearShiftRequest
  split
  · split
    · exact h
    · exact h.setShift ..
  · exact h

theorem acknowledgeAll_room (l : List Nat) (h : s.Room m n) : (acknowledgeAll l s).1.Room m n := by
  induction l generalizing s with
  | nil => exact h
  | cons i l ih => exact ih (h.raised (s.acknowledge_raised i))

theorem ackConditionsRequest_room (p : List Byte) (h : s.Room m n) :
    (ackConditionsRequest p s).work.state.Room m n := by
  unfold ackConditionsRequest
  split
  · exact acknowledgeAll_room _ h
  · dsimp only
    split
    · exact acknowledgeAll_room _ h
    · exact h
  · exact h

theorem setLevelsRequest_room (p : List Byte) (h : s.Room m n) :
    (setLevelsRequest p s).work.state.Room m n := by
  unfold setLevelsRequest
  dsimp only
  split
  · exact { h with entries := by simpa [State.answerDone, State.work, ConditionUnit.setLevels] using h.entries }
  · exact h

theorem readConditionsRequest_state (p : List Byte) (s : State) :
    (readConditionsRequest p s).work.state = s := by
  unfold readConditionsRequest
  dsimp only
  repeat' split
  all_goals rfl

theorem setInboundPolicyRequest_room (p : List Byte) (h : s.Room m n) :
    (setInboundPolicyRequest p s).work.state.Room m n := by
  unfold setInboundPolicyRequest
  split
  · exact h
  · exact { h with }

theorem setReportingRequest_room (p : List Byte) (h : s.Room m n) :
    (setReportingRequest p s).work.state.Room m n := by
  unfold setReportingRequest
  dsimp only
  split
  · refine State.Room.answerDone (State.Room.withReports h ?_) _
    refine ⟨h.reports.once, fun r => ?_, h.reports.header⟩
    cases r <;> exact h.reports.runs _
  · exact h

theorem commissionRequest_room (p : List Byte) (h : s.Room m n) :
    (commissionRequest p s).work.state.Room m n := by
  unfold commissionRequest
  split
  · exact h
  · exact State.Room.openHead (h.setMgmt { s.mgmt with device := .measuring })

theorem State.Room.decommissionClose (h : s.Room m n) : s.decommissionClose.work.state.Room m n := by
  unfold State.decommissionClose
  split
  · exact h.beginClose _
  · refine State.Room.retestClose (h.mapActive ?_) _
    exact fun _ hb => hb

theorem decommissionRequest_room (p : List Byte) (h : s.Room m n) :
    (decommissionRequest p s).work.state.Room m n := by
  unfold decommissionRequest
  split
  · exact h
  · dsimp only
    split
    · exact h.endAllProves.decommissionClose
    · exact State.Room.setMgmt h.endAllProves.decommissionClose _

theorem State.Room.restarted (h : s.Room m n) : s.restarted.Room m n :=
  { slots := by simpa [State.restarted, State.freshMap] using h.slots
    entries := by simp [State.restarted]
    fifo := Nat.zero_le _
    forward := Nat.zero_le _
    responses := Nat.zero_le _
    tickets := h.tickets
    batch := ⟨Nat.zero_le _, by simp [State.restarted]⟩
    prover := ⟨List.nodup_nil, fun r => by simp [State.restarted],
      fun r _ _ _ _ _ hp => by simp [State.restarted] at hp⟩
    reports := ⟨List.nodup_nil, fun r => by simp [State.restarted, SnapSlot.restarted],
      by simp [State.restarted, SnapSlot.restarted]⟩
    outbound := h.outbound }

theorem restartRequest_room (p : List Byte) (h : s.Room m n) : (restartRequest p s).work.state.Room m n := by
  unfold restartRequest
  split
  · exact h
  · exact h.restarted

theorem setTimeRequest_room (p : List Byte) (h : s.Room m n) : (setTimeRequest p s).work.state.Room m n :=
  h.setMgmt _

theorem readStatusRequest_state (p : List Byte) (s : State) : (readStatusRequest p s).work.state = s := rfl

/-- An owner that leaves the state keeps every bound. -/
theorem room_of_state_eq {owner : List Byte → State → Answer} (ho : ∀ p s, (owner p s).work.state = s)
    (p : List Byte) (h : s.Room m n) : (owner p s).work.state.Room m n := (ho p s).symm ▸ h

/-! ### The Outbound Port -/

theorem State.Room.withOutbound {u : OutboundPort} (h : s.Room m n) (hu : u.Orderly) :
    ({ s with outbound := u }).Room m n := { h with outbound := hu }

theorem State.Room.startFrame (h : s.Room m n) (f : Frame) (k : PreviousKind) : (s.startFrame f k).Room m n :=
  h.withOutbound ⟨h.outbound.plan, h.outbound.pointer⟩

/-- The snapshot at the head of the result order is sent: its slot leaves the order and is not pending. -/
theorem State.Room.startSnapshot (h : s.Room m n) {id : SnapId} {rest : List SnapId}
    (ho : s.reports.order = id :: rest) : (s.startSnapshot id rest).Room m n := by
  obtain ⟨honce, hruns, hheader⟩ := h.reports
  rw [ho, List.nodup_cons] at honce
  rw [ho] at hheader
  simp only [ho] at hruns
  unfold State.startSnapshot
  cases id with
  | run r =>
    refine State.Room.startFrame (h.withReports ⟨honce.2, fun q => ?_, by simpa using hheader⟩) ..
    by_cases hq : q = r
    · subst hq; simpa [SnapSlot.sent] using honce.1
    · simpa [Four.get_set_of_ne _ _ hq, hq] using hruns q
  | header =>
    refine State.Room.startFrame (h.withReports ⟨honce.2, fun q => by simpa using hruns q, ?_⟩) ..
    simpa [SnapSlot.sent] using honce.1

theorem State.Room.startSource (h : s.Room m n) (x : Source) : (s.startSource x).Room m n := by
  unfold State.startSource
  cases x with
  | forward =>
    dsimp only
    split
    · exact h
    · next f rest hf =>
      have hr : ({ s with forward := rest }).Room m n :=
        { h with forward := (Nat.le_succ _).trans (by simpa [hf] using h.forward) }
      exact hr.startFrame ..
  | result =>
    dsimp only
    split
    · exact h
    · next ho => exact h.startSnapshot ho
  | response =>
    dsimp only
    split
    · exact h
    · next x rest hf =>
      have hr : ({ s with responses := rest }).Room m n :=
        { h with responses := (Nat.le_succ _).trans (by simpa [hf] using h.responses) }
      exact hr.startFrame ..
  | condition =>
    dsimp only
    split
    · exact h
    · next x _ =>
      cases x with
      | entry i => exact State.Room.startFrame (h.raised (s.modifyEntry_raised i _)) ..
      | notice id =>
        have hn : (s.setNotice id { s.notice id with pending := false, count := 0 }).Room m n := { h with }
        exact hn.startFrame ..
  | none => exact h

/-- The pointer after a frame is a slot of the plan again (R167). -/
theorem OutboundPort.Orderly.slotAfter {u : OutboundPort} (h : u.Orderly) (i : Nat) :
    ({ u with pointer := u.slotAfter i }).Orderly := by
  refine ⟨h.plan, ?_⟩
  have := h.plan.1
  unfold OutboundPort.slotAfter
  dsimp only
  split <;> omega

theorem State.Room.select (h : s.Room m n) : s.select.Room m n := by
  unfold State.select
  split
  · split
    · next i x _ =>
      have hs := h.startSource x
      exact hs.withOutbound (hs.outbound.slotAfter i)
    · unfold State.idleOrWait
      split
      · exact h.startFrame ..
      · exact h
  · exact h

theorem length_of_mapM {α β : Type} {f : α → Option β} {l : List α} {r : List β}
    (h : l.mapM f = some r) : r.length = l.length := by
  induction l generalizing r with
  | nil => simp_all
  | cons a l ih =>
    simp only [List.mapM_cons, Option.bind_eq_bind, Option.bind_eq_some_iff, Option.pure_def,
      Option.some.injEq] at h
    obtain ⟨b, -, bs, hbs, rfl⟩ := h
    simp [ih hbs]

theorem setSlotPlanRequest_room (p : List Byte) (h : s.Room m n) :
    (setSlotPlanRequest p s).work.state.Room m n := by
  unfold setSlotPlanRequest
  dsimp only
  split
  · exact h
  · next plan hplan =>
    split
    · next hc =>
      have hlen := length_of_mapM hplan
      simp only [Bool.and_eq_true, within, decide_eq_true_eq] at hc
      obtain ⟨⟨⟨⟨hcount, -⟩, -⟩, -⟩, -⟩ := hc
      rw [List.length_range] at hlen
      refine State.Room.answerDone (h.withOutbound ⟨?_, ?_⟩) _
      · dsimp only; omega
      · dsimp only; omega
    · exact h

theorem dispatchSlotPlan_room (h : s.Room 16 8) : s.dispatchSlotPlan.Room 16 8 := by
  have key := request_room 32 (fun p _ _ => setSlotPlanRequest_room p) h
  unfold State.request State.dispatchRequest State.whenRunning at key
  unfold State.dispatchSlotPlan State.whenRunning
  split
  · exact h
  · next hheld =>
    rw [if_neg hheld] at key
    dsimp only at key ⊢
    split
    · exact h
    · next f hf =>
      rw [hf] at key
      dsimp only at key
      split
      · next hk =>
        rw [if_pos (by simpa using hk)] at key
        generalize (if lengthFits 32 f.params then setSlotPlanRequest f.params s.popHead
          else s.popHead.refuse .badLength) = a at key ⊢
        split
        · exact key.select
        · exact key
      · exact h

end Sys2Proof.Machine
end

section
/-!
The bounds at every command, and the invariant of every step.
-/

namespace Sys2Proof.Machine

variable {s t : State} {m n : Nat}

/-! ### Every command and every step -/

theorem State.Room.whenRunning (h : s.Room m n) {event : State → State}
    (he : s.Room m n → (event s).Room m n) : (s.whenRunning event).Room m n := by
  unfold State.whenRunning
  split
  · exact h
  · exact he h

theorem State.Room.dispatchHead (h : s.Room m n) {use : Frame → State → State}
    (hu : ∀ f, (use f s).Room m n) : (s.dispatchHead use).Room m n := by
  refine h.whenRunning fun h => ?_
  split
  · exact h
  · exact hu _

/-- A frame with room in the Forward Queue moves there from the inbound FIFO. -/
theorem State.Room.forwardHead {u : State} (h : s.Room 16 n) (hroom : s.forwardRoom = true)
    (hu : ∀ {m : Nat}, s.Room m n → u.Room m n) (f : Frame) : (u.appendForward f).Room 16 n :=
  (hu (m := 15) { h with forward := Nat.le_of_lt_succ (of_decide_eq_true hroom) }).appendForward f

/-- An arriving frame joins the FIFO where it has room, or takes the place of the oldest sample (R156). -/
theorem State.Room.arrive (h : s.Room m n) (f : Frame) : (s.arrive f).Room m n := by
  have fifo : ∀ l : List Frame, l.length ≤ 16 → (s.setFifo l).Room m n := fun l hl => { h with fifo := hl }
  unfold State.arrive
  dsimp only
  split
  · next hlt => exact fifo _ (by simpa using hlt)
  · split
    · exact h.raised (s.occur_raised ..)
    · exact h.raised (s.occur_raised ..)
    · split
      · next hany =>
        refine (fifo _ ?_).raised (State.occur_raised ..)
        have hfull := h.fifo
        obtain ⟨g, hg, hsample⟩ := List.any_eq_true.1 hany
        have := List.length_eraseP_of_mem hg hsample
        have := List.length_pos_of_mem hg
        simp only [List.length_append, List.length_singleton]
        omega
      · exact h.raised (s.occur_raised ..)

theorem execStaleTimerExpiry_room (slot : Nat) (h : s.Room m n) (hc : execStaleTimerExpiry slot s = .next t) :
    t.Room m n := by
  cases hc
  refine h.whenRunning fun h => ?_
  split
  · exact h
  · split
    · exact State.Room.updateRecord (h.passTo _) ..
    · exact h

theorem execHoldTimerExpiry_room (slot : Nat) (h : s.Room m n) (hc : execHoldTimerExpiry slot s = .next t) :
    t.Room m n := by
  cases hc
  refine h.whenRunning fun h => ?_
  split
  · exact h
  · split
    · exact State.Room.updateRecord (h.passTo _) ..
    · exact h

theorem execInterfaceTimerExpiry_room (h : s.Room m n) (hc : execInterfaceTimerExpiry s = .next t) :
    t.Room m n := by
  cases hc
  refine h.whenRunning fun h => ?_
  split
  · next e _ =>
    have hr := State.Room.raised (State.Room.setDetector (h.passTo e) .interface)
      (State.raiseEntry_raised _ .interface 1)
    refine State.Room.finish (State.Room.raised ?_ (State.countLevel3_raised ..))
    split_ifs
    · exact hr.beginClose _
    · exact hr
  · exact h
  · exact h

theorem execReportPeriodExpiry_room (h : s.Room m n) (hc : execReportPeriodExpiry s = .next t) :
    t.Room m n := by
  cases hc
  refine h.whenRunning fun h => ?_
  split
  · next e _ =>
    have ht := (h.passTo e).triggerAll .periodic
    exact ht.withReports ⟨ht.reports.once, ht.reports.runs, ht.reports.header⟩
  · exact h

theorem State.Room.reset : State.reset.Room m n :=
  { slots := by simp [State.reset]
    entries := by simp [State.reset]
    fifo := Nat.zero_le _
    forward := Nat.zero_le _
    responses := Nat.zero_le _
    tickets := ⟨Nat.zero_le _, by simp [State.reset]⟩
    batch := ⟨Nat.zero_le _, by simp [State.reset]⟩
    prover := ⟨List.nodup_nil, fun r => by simp [State.reset], fun r _ _ _ _ _ hp => by simp [State.reset] at hp⟩
    reports := ⟨List.nodup_nil, fun r => by simp [State.reset, SnapSlot.powerOn],
      by simp [State.reset, SnapSlot.powerOn]⟩
    outbound := by refine ⟨?_, ?_⟩ <;> decide }

theorem execPowerOnReset_room (hc : execPowerOnReset s = .next t) : t.Room m n := by
  cases hc
  exact { (State.Room.reset (m := m) (n := n)) with
    outbound := ⟨State.Room.reset (m := m) (n := n) |>.outbound.plan,
      State.Room.reset (m := m) (n := n) |>.outbound.pointer⟩ }

theorem execFrameEnd_room (bytes : List Byte) (h : s.Room m n) (hc : execFrameEnd bytes s = .next t) :
    t.Room m n := by
  cases hc
  refine h.whenRunning fun h => ?_
  have hr : (s.setReception .none).Room m n := { h with }
  split
  · exact h
  · dsimp only
    split
    · exact hr.arrive _
    · exact hr.raised (State.occur_raised ..)

theorem execForwardDispatch_room (h : s.Room 16 n) (hc : execForwardDispatch s = .next t) : t.Room 16 n := by
  cases hc
  refine h.dispatchHead fun f => ?_
  split
  · next hcond =>
    simp only [Bool.and_eq_true] at hcond
    exact h.forwardHead hcond.2 State.Room.popHead f
  · exact h

theorem execTriggerFrame_room (h : s.Room 16 n) (hc : execTriggerFrame s = .next t) : t.Room 16 n := by
  cases hc
  refine h.dispatchHead fun f => ?_
  split
  · split
    · exact h.popHead.triggerAll _
    · split
      · next hcond =>
        simp only [Bool.and_eq_true] at hcond
        exact h.forwardHead hcond.2 (fun hm => hm.popHead.triggerAll _) f
      · exact h
  · exact h

theorem execPassTimerExpiry_room (h : s.Room m n) (hc : execPassTimerExpiry s = .next t) : t.Room m n := by
  cases hc
  refine h.whenRunning fun h => ?_
  split
  · exact h
  · split
    · exact (State.Room.endProve (h.passTo _) ..).finish
    all_goals exact h

theorem execAcceptTimerExpiry_room (r : RunNo) (h : s.Room m n) (hc : execAcceptTimerExpiry r s = .next t) :
    t.Room m n := by
  cases hc
  refine h.whenRunning fun h => ?_
  split
  · exact (State.Room.endProve (h.passTo _) ..).finish
  all_goals exact h

theorem execCloseTimerExpiry_room (r : RunNo) (h : s.Room m n) (hc : execCloseTimerExpiry r s = .next t) :
    t.Room m n := by
  cases hc
  refine h.whenRunning fun h => ?_
  split
  · exact (State.Room.closeRun (h.passTo _) r).finish
  · exact h

theorem execDownstreamReadyChange_room (level : Bool) (h : s.Room m n)
    (hc : execDownstreamReadyChange level s = .next t) : t.Room m n := by
  cases hc
  have hl : ({ s with outbound := { s.outbound with downstreamReady := level } }).Room m n :=
    h.withOutbound ⟨h.outbound.plan, h.outbound.pointer⟩
  split
  · exact hl.whenRunning State.Room.select
  · exact hl

/-- Every command keeps every bound. -/
theorem exec_room (c : Instr) (h : s.Room 16 8) (hc : exec c s = .next t) : t.Room 16 8 := by
  have reads : ∀ (k : Nat) {owner : List Byte → State → Answer},
      (∀ p s, (owner p s).work.state = s) → (s.request k owner).Room 16 8 := fun k _ ho =>
    request_room k (fun p _ _ => room_of_state_eq ho p) h
  cases c
  case powerOnReset => exact execPowerOnReset_room hc
  case resetEnd =>
    cases hc
    split
    · exact { h with outbound := ⟨h.outbound.plan, h.outbound.pointer⟩ }
    · exact h
  case receptionStart =>
    cases hc
    refine h.whenRunning fun h => ?_
    split
    · exact { h with }
    · exact h
  case frameEnd bytes => exact execFrameEnd_room bytes h hc
  case forwardDispatch => exact execForwardDispatch_room h hc
  case pulseFrame => cases hc; exact dispatchSample_room _ (fun f slot e c => usePulse_room f slot e c) h
  case valueFrame => cases hc; exact dispatchSample_room _ (fun f slot e c => useValue_room f slot e c) h
  case passFrame => cases hc; exact dispatchSample_room _ (fun f slot e c => usePass_room f slot e c) h
  case triggerFrame => exact execTriggerFrame_room h hc
  case invalidOwnFrame =>
    cases hc
    refine h.dispatchHead fun f => ?_
    split
    · exact h.popHead.raised (State.occur_raised ..)
    · exact h
  case staleTimerExpiry slot => exact execStaleTimerExpiry_room slot h hc
  case holdTimerExpiry slot => exact execHoldTimerExpiry_room slot h hc
  case closeTimerExpiry r => exact execCloseTimerExpiry_room r h hc
  case interfaceTimerExpiry => exact execInterfaceTimerExpiry_room h hc
  case passTimerExpiry => exact execPassTimerExpiry_room h hc
  case acceptTimerExpiry r => exact execAcceptTimerExpiry_room r h hc
  case reportPeriodExpiry => exact execReportPeriodExpiry_room h hc
  case idleIntervalReached =>
    cases hc
    refine h.whenRunning fun h => ?_
    split
    · exact State.Room.select (h.passTo _)
    · exact h
  case stationTimeAdvance => cases hc; exact h.whenRunning fun h => State.Room.setMgmt (h.passTo _) _
  case downstreamReadyChange level => exact execDownstreamReadyChange_room level h hc
  case transmissionStart =>
    cases hc
    refine h.whenRunning fun h => ?_
    split
    · exact h.select
    · exact h
  case transmissionComplete =>
    cases hc
    refine h.whenRunning fun h => ?_
    split
    · exact State.Room.select (h.withOutbound ⟨h.outbound.plan, h.outbound.pointer⟩)
    · exact h
  case unknownRequest => cases hc; exact dispatchRequest_room (fun _ _ hs => hs) h
  case mapPoint => cases hc; exact request_room 1 (fun p _ _ => mapPointRequest_room p) h
  case unmapPoint => cases hc; exact request_room 2 (fun p _ _ => unmapPointRequest_room p) h
  case configureRun => cases hc; exact request_room 3 (fun p _ _ => configureRunRequest_room p) h
  case configureHeader => cases hc; exact request_room 4 (fun p _ _ => configureHeaderRequest_room p) h
  case setRunServiceOpen => cases hc; exact setRunService_room 0 1 (fun r _ _ => openRun_room r) h
  case setRunServiceClose => cases hc; exact setRunService_room 1 0 (fun r _ _ => closeRunRequest_room r) h
  case readLive => cases hc; exact reads 6 readLiveRequest_state
  case beginLoad => cases hc; exact request_room 7 (fun p _ _ => beginLoadRequest_room p) h
  case loadSegment => cases hc; exact request_room 8 (fun p _ _ => loadSegmentRequest_room p) h
  case commitSet => cases hc; exact request_room 9 (fun p _ _ => commitSetRequest_room p) h
  case discardSet => cases hc; exact request_room 10 (fun p _ _ => discardSetRequest_room p) h
  case readSetInfo => cases hc; exact reads 11 readSetInfoRequest_state
  case queueBatch => cases hc; exact request_room 12 (fun p _ _ => queueBatchRequest_room p) h
  case cancelBatch => cases hc; exact request_room 13 (fun p _ _ => cancelBatchRequest_room p) h
  case closeBatch => cases hc; exact request_room 14 (fun p _ _ => closeBatchRequest_room p) h
  case amendTarget => cases hc; exact request_room 15 (fun p _ _ => amendTargetRequest_room p) h
  case readSchedule => cases hc; exact reads 16 readScheduleRequest_state
  case readTicket => cases hc; exact reads 17 readTicketRequest_state
  case releaseTicket => cases hc; exact request_room 18 (fun p _ _ => releaseTicketRequest_room p) h
  case readTotals => cases hc; exact reads 19 readTotalsRequest_state
  case seedTotals => cases hc; exact request_room 20 (fun p _ _ => seedTotalsRequest_room p) h
  case configureProver => cases hc; exact request_room 21 (fun p _ _ => configureProverRequest_room p) h
  case requestProve => cases hc; exact request_room 22 (fun p _ _ => requestProveRequest_room p) h
  case cancelProve => cases hc; exact request_room 23 (fun p _ _ => cancelProveRequest_room p) h
  case acceptProve => cases hc; exact request_room 24 (fun p _ _ => acceptProveRequest_room p) h
  case rejectProve => cases hc; exact request_room 25 (fun p _ _ => rejectProveRequest_room p) h
  case readProve => cases hc; exact reads 26 readProveRequest_state
  case clearShift => cases hc; exact request_room 27 (fun p _ _ => clearShiftRequest_room p) h
  case ackConditions => cases hc; exact request_room 28 (fun p _ _ => ackConditionsRequest_room p) h
  case setLevels => cases hc; exact request_room 29 (fun p _ _ => setLevelsRequest_room p) h
  case readConditions => cases hc; exact reads 30 readConditionsRequest_state
  case setInboundPolicy => cases hc; exact request_room 31 (fun p _ _ => setInboundPolicyRequest_room p) h
  case setSlotPlan => cases hc; exact dispatchSlotPlan_room h
  case setReporting => cases hc; exact request_room 33 (fun p _ _ => setReportingRequest_room p) h
  case commission => cases hc; exact request_room 34 (fun p _ _ => commissionRequest_room p) h
  case decommission => cases hc; exact request_room 35 (fun p _ _ => decommissionRequest_room p) h
  case restart => cases hc; exact request_room 36 (fun p _ _ => restartRequest_room p) h
  case setTime => cases hc; exact request_room 37 (fun p _ _ => setTimeRequest_room p) h
  case readStatus => cases hc; exact reads 38 readStatusRequest_state

theorem step_room (h : s.Room 16 8) (hs : step s = .next t) : t.Room 16 8 := by
  unfold step at hs
  split at hs
  · cases hs
    unfold State.tick
    split
    · exact h
    · exact { h with }
  · next c rest _ =>
    have hp : (s.withPending rest).Room 16 8 := { h with }
    exact exec_room c hp hs

/-! ### The invariant -/

theorem SnapId.mem_all (id : SnapId) : id ∈ SnapId.all := by
  cases id with
  | run r => cases r <;> decide
  | header => decide

/-- Settles O6, by one lemma for each operation, request owner and command over the bounds by block. -/
theorem capacitiesKept : Obligations.CapacitiesKept := by
  intro s t hs hstep
  have ht := step_room (State.capacities_iff_room.1 hs) hstep
  exact ⟨State.capacities_iff_room.2 ht, ht.prover.once.length_le_of_subset fun r _ => r.mem_all,
    ht.reports.once.length_le_of_subset fun id _ => id.mem_all⟩

end Sys2Proof.Machine
end

section
/-!
Facts about the point map and the condition table that the statements on live values share: which slot holds
what after a change, which point holds a role, and which entry a raise or a return reaches (R1, R14, R140,
R142).
-/

namespace Sys2Proof.Machine

variable {s t : State}

/-! ### The point map -/

theorem mem_mapped_list {l : List (Option MapEntry)} {start slot : Nat} {e : MapEntry} :
    (slot, e) ∈ ((l.zipIdx start).filterMap fun (e, slot) => e.map fun e => (slot, e)) ↔
      start ≤ slot ∧ l[slot - start]? = some (some e) := by
  simp only [List.mem_filterMap, Prod.exists, Option.map_eq_some_iff, Prod.mk.injEq]
  constructor
  · rintro ⟨_, _, hmem, _, rfl, rfl, rfl⟩
    exact List.mem_zipIdx_iff_le_and_getElem?_sub.1 hmem
  · exact fun h => ⟨_, slot, List.mem_zipIdx_iff_le_and_getElem?_sub.2 h, _, rfl, rfl, rfl⟩

theorem State.mem_mapped {slot : Nat} {e : MapEntry} :
    (slot, e) ∈ s.mapped ↔ 1 ≤ slot ∧ s.points.map[slot - 1]? = some (some e) := mem_mapped_list

theorem State.slotEntry_eq_some {slot : Nat} {e : MapEntry} :
    s.slotEntry slot = some e ↔ 1 ≤ slot ∧ s.points.map[slot - 1]? = some (some e) := by
  rw [← State.mem_mapped, State.slotEntry, Option.map_eq_some_iff]
  constructor
  · rintro ⟨⟨n, x⟩, hfind, rfl⟩
    have hn : n = slot := by simpa using List.find?_some hfind
    exact hn ▸ List.mem_of_find?_eq_some hfind
  · intro hmem
    cases hfind : s.mapped.find? fun p => p.1 == slot with
    | none => exact absurd (beq_self_eq_true slot) (List.find?_eq_none.1 hfind _ hmem)
    | some p =>
      obtain ⟨n, x⟩ := p
      have hn : n = slot := by simpa using List.find?_some hfind
      subst hn
      have hx := (State.mem_mapped.1 (List.mem_of_find?_eq_some hfind)).2
      rw [(State.mem_mapped.1 hmem).2] at hx
      exact ⟨_, rfl, by simpa using hx.symm⟩

theorem State.slotEntry_eq (s : State) (slot : Nat) :
    s.slotEntry slot = if 1 ≤ slot then (s.points.map[slot - 1]?).join else none := by
  refine Option.ext fun e => ?_
  rw [State.slotEntry_eq_some]
  split
  · next h => simp [h, Option.join_eq_some_iff]
  · next h => simp [h]

/-- A slot's entry depends on the point map alone. -/
theorem State.slotEntry_congr (h : t.points.map = s.points.map) (slot : Nat) :
    t.slotEntry slot = s.slotEntry slot := by rw [State.slotEntry_eq, State.slotEntry_eq, h]

theorem State.slotEntry_setSlot_self {slot : Nat} {e : MapEntry} (h : s.slotEntry slot = some e)
    (x : Option MapEntry) : (s.setSlot slot x).slotEntry slot = x := by
  obtain ⟨hpos, hget⟩ := State.slotEntry_eq_some.1 h
  obtain ⟨hlt, -⟩ := List.getElem?_eq_some_iff.1 hget
  simp [State.slotEntry_eq, State.setSlot, hpos, hlt]

theorem State.slotEntry_setSlot_of_ne {slot n : Nat} {e : MapEntry} (h : s.slotEntry slot = some e)
    (hn : n ≠ slot) (x : Option MapEntry) : (s.setSlot slot x).slotEntry n = s.slotEntry n := by
  obtain ⟨hpos, -⟩ := State.slotEntry_eq_some.1 h
  rw [State.slotEntry_eq, State.slotEntry_eq]
  split
  · next hn1 =>
    have : slot - 1 ≠ n - 1 := by omega
    simp [State.setSlot, List.getElem?_set_ne this]
  · rfl

theorem State.slotEntry_bounds {slot : Nat} {e : MapEntry} (h : s.slotEntry slot = some e) :
    1 ≤ slot ∧ slot ≤ s.points.map.length := by
  obtain ⟨hpos, hget⟩ := State.slotEntry_eq_some.1 h
  obtain ⟨hlt, -⟩ := List.getElem?_eq_some_iff.1 hget
  omega

theorem State.findRole_eq_some {role : Role} {slot : Nat} {e : MapEntry}
    (h : s.findRole role = some (slot, e)) : s.slotEntry slot = some e ∧ e.role = role :=
  ⟨State.slotEntry_eq_some.2 (State.mem_mapped.1 (List.mem_of_find?_eq_some h)), by
    simpa using List.find?_some h⟩

theorem State.findPoint_eq_some {id slot : Nat} {e : MapEntry} (h : s.findPoint id = some (slot, e)) :
    s.slotEntry slot = some e :=
  State.slotEntry_eq_some.2 (State.mem_mapped.1 (List.mem_of_find?_eq_some h))

/-- The point that a sample frame names stands in its slot, with a role that takes the kind. -/
theorem State.sampleEntry_eq_some {f : Frame} {slot : Nat} {e : MapEntry}
    (h : s.sampleEntry f = some (slot, e)) : s.slotEntry slot = some e ∧ e.role.takes f.kind = true := by
  obtain ⟨hfind, htakes⟩ := Option.filter_eq_some_iff.1 h
  exact ⟨State.findPoint_eq_some hfind, htakes⟩

theorem mapped_list_set {l : List (Option MapEntry)} {i start : Nat} {e e' : MapEntry}
    (h : l[i]? = some (some e)) :
    (((l.set i (some e')).zipIdx start).filterMap fun (e, slot) => e.map fun e => (slot, e)) =
      ((l.zipIdx start).filterMap fun (e, slot) => e.map fun e => (slot, e)).map
        fun p => if p.1 = start + i then (start + i, e') else p := by
  induction l generalizing i start with
  | nil => cases h
  | cons x l ih =>
    cases i with
    | zero =>
      obtain rfl : x = some e := by simpa using h
      have htail : ∀ p ∈ ((l.zipIdx (start + 1)).filterMap fun (e, slot) => e.map fun e => (slot, e)),
          p = if p.1 = start then (start, e') else p := by
        rintro ⟨slot, x⟩ hp
        have := (mem_mapped_list.1 hp).1
        rw [if_neg (by dsimp only; omega)]
      simpa using List.map_congr_left htail
    | succ i =>
      have := ih (start := start + 1) (i := i) (by simpa using h)
      have hi : start + 1 + i = start + (i + 1) := by omega
      rw [hi] at this
      cases x with
      | none => simpa using this
      | some x => simpa [show start ≠ start + (i + 1) by omega] using this

/-- A slot's entry is replaced by one of the same role: a role is held by the same slot as before. -/
theorem State.findRole_setSlot {slot : Nat} {e e' : MapEntry} (h : s.slotEntry slot = some e)
    (hr : e'.role = e.role) (role : Role) :
    (s.setSlot slot (some e')).findRole role =
      (s.findRole role).map fun p => if p.1 = slot then (slot, e') else p := by
  obtain ⟨hpos, hget⟩ := State.slotEntry_eq_some.1 h
  have hmapped : (s.setSlot slot (some e')).mapped =
      s.mapped.map fun p => if p.1 = slot then (slot, e') else p := by
    have := mapped_list_set (start := 1) (e' := e') hget
    rw [show 1 + (slot - 1) = slot by omega] at this
    exact this
  rw [State.findRole, hmapped, List.find?_map, State.findRole]
  congr 1
  refine List.find?_congr fun p hp => ?_
  dsimp only [Function.comp]
  split
  · next hn =>
    have hx := (State.mem_mapped.1 (show (p.1, p.2) ∈ s.mapped from hp)).2
    rw [hn, hget] at hx
    rw [hr, Option.some.inj (Option.some.inj hx)]
  · rfl

/-- A change in a slot of another role leaves the point that holds a role as it is. -/
theorem State.findRole_setSlot_of_ne {slot : Nat} {e e' : MapEntry} (h : s.slotEntry slot = some e)
    (hr : e'.role = e.role) {role : Role} (hne : e.role ≠ role) :
    (s.setSlot slot (some e')).findRole role = s.findRole role := by
  rw [State.findRole_setSlot h hr]
  cases hf : s.findRole role with
  | none => rfl
  | some p =>
    obtain ⟨n, x⟩ := p
    obtain ⟨hx, hrole⟩ := State.findRole_eq_some hf
    rw [Option.map_some, if_neg]
    rintro rfl
    rw [h] at hx
    exact hne (Option.some.inj hx ▸ hrole)

theorem State.findRole_congr (h : t.points.map = s.points.map) (role : Role) :
    t.findRole role = s.findRole role := by simp only [State.findRole, State.mapped, h]

/-! ### The condition table -/

theorem State.entry_modifyEntry_of_ne {n k : Nat} (f : CondEntry → CondEntry) (h : n - 1 ≠ k - 1) :
    (s.modifyEntry k f).entry n = s.entry n := by
  simp [State.entry, State.modifyEntry, Ne.symm h]

theorem State.entry_modifyEntry_self {n : Nat} (f : CondEntry → CondEntry)
    (h : n - 1 < s.cond.entries.length) : (s.modifyEntry n f).entry n = f (s.entry n) := by
  simp [State.entry, State.modifyEntry, h]

theorem State.mapActive_cond (s : State) (f : BatchEntry → BatchEntry) : (s.mapActive f).cond = s.cond := by
  unfold State.mapActive
  split
  · rfl
  · split <;> rfl

theorem State.countLevel3_cond (s : State) (k : CondKind) : (s.countLevel3 k).cond = s.cond := by
  unfold State.countLevel3
  split
  · exact State.mapActive_cond ..
  · rfl

theorem State.entry_congr (h : t.cond.entries = s.cond.entries) (n : Nat) : t.entry n = s.entry n := by
  rw [State.entry, State.entry, h]

theorem State.entry_raise_of_ne {k : CondKind} {i n : Nat} (h : n - 1 ≠ k.entry i - 1) :
    (s.raise k i).entry n = s.entry n := by
  rw [State.raise, State.entry_congr (congrArg _ (State.countLevel3_cond ..))]
  unfold State.raiseEntry
  split
  · exact State.entry_modifyEntry_of_ne _ h
  · rfl

theorem State.entry_raise_self {k : CondKind} {i : Nat} (heff : s.raiseTakesEffect k = true)
    (h : k.entry i - 1 < s.cond.entries.length) :
    (s.raise k i).entry (k.entry i) = (s.entry (k.entry i)).raise (s.levelOf k)
      ⟨s.mgmt.stationTime, s.mgmt.timeValid, nextSequence s.cond.raiseSeq⟩ := by
  rw [State.raise, State.entry_congr (congrArg _ (State.countLevel3_cond ..)), State.raiseEntry, if_pos heff]
  exact State.entry_modifyEntry_self _ h

theorem State.entry_returnCond_of_ne {k : CondKind} {i n : Nat} (h : n - 1 ≠ k.entry i - 1) :
    (s.returnCond k i).entry n = s.entry n := State.entry_modifyEntry_of_ne _ h

theorem State.entry_returnCond_self {k : CondKind} {i : Nat} (h : k.entry i - 1 < s.cond.entries.length) :
    (s.returnCond k i).entry (k.entry i) =
      (s.entry (k.entry i)).moveTo (s.levelOf k) (s.entry (k.entry i)).state.afterReturn :=
  State.entry_modifyEntry_self _ h

theorem State.entry_occur_of_ne {k : CondKind} {i n : Nat} (h : n - 1 ≠ k.entry i - 1) :
    (s.occur k i).entry n = s.entry n := by
  unfold State.occur
  split
  · rw [State.entry_returnCond_of_ne h, State.entry_raise_of_ne h]
  · rfl

/-- A momentary occurrence that takes effect is counted and stands returned (R143). -/
theorem State.entry_occur_self {k : CondKind} {i : Nat} (heff : s.raiseTakesEffect k = true)
    (h : k.entry i - 1 < s.cond.entries.length) :
    ((s.occur k i).entry (k.entry i)).state = .returnedUnack ∧
      ((s.occur k i).entry (k.entry i)).count = saturate 65535 ((s.entry (k.entry i)).count + 1) := by
  have hr : k.entry i - 1 < (s.raise k i).cond.entries.length := by
    rw [(s.raise_raised k i).entries]; exact h
  rw [State.occur, if_pos heff, State.entry_returnCond_self hr, State.entry_raise_self heff h]
  exact ⟨rfl, rfl⟩

theorem State.entry_follow_of_ne {k : CondKind} {i n : Nat} (before after : Bool)
    (h : n - 1 ≠ k.entry i - 1) : (s.follow k i before after).entry n = s.entry n := by
  unfold State.follow
  split
  · exact State.entry_raise_of_ne h
  · split
    · exact State.entry_returnCond_of_ne h
    · rfl

/-- A latched condition whose raise takes effect goes where its flag leads it (R142). -/
theorem State.entry_follow_self {k : CondKind} {i : Nat} (heff : s.raiseTakesEffect k = true)
    (h : k.entry i - 1 < s.cond.entries.length) (before after : Bool) :
    ((s.follow k i before after).entry (k.entry i)).state =
      latchedState before after (s.entry (k.entry i)).state := by
  unfold State.follow latchedState
  split
  · rw [State.entry_raise_self heff h]; rfl
  · split
    · rw [State.entry_returnCond_self h]; rfl
    · rfl

/-- The detector's judgment reaches the INTERFACE entry alone. -/
theorem State.entry_judge_of_ne {n : Nat} (h : n - 1 ≠ 117) : s.judge.entry n = s.entry n := by
  unfold State.judge
  split
  · rfl
  · rfl
  · exact State.entry_returnCond_of_ne h
  all_goals rfl

/-- The acceptance of a frame in one of the fifteen slots reaches the entries 1 … 30 alone. -/
theorem State.entry_accept_of_ne {slot n : Nat} (hslot : slot ≤ 15) (hn : 31 ≤ n) (e : MapEntry)
    (f : Frame) (c : Acceptance) : (s.accept slot e f c).entry n = s.entry n := by
  have hset : ∀ x, (s.setSlot slot x).entry n = s.entry n := fun _ => rfl
  unfold State.accept
  cases c with
  | restart =>
    rw [State.entry_occur_of_ne (by simp [CondKind.entry, CondKind.first]; omega), hset]
  | gap => rw [State.entry_occur_of_ne (by simp [CondKind.entry, CondKind.first]; omega), hset]
  | first => rfl
  | next => rfl
  | discarded => rfl

/-- The VALUE conditions of a slot follow its record, also while UNCOMMISSIONED (R14, R145). -/
theorem State.updateRecord_latched {slot : Nat} (hslot : 1 ≤ slot ∧ slot ≤ 15)
    (hlen : s.cond.entries.length = 121) (e : MapEntry) (new : LiveRecord) :
    s.LatchedFollow (s.updateRecord slot e new) slot e.record new := by
  have hjudge : ∀ n, n ≤ 90 → 1 ≤ n → (s.updateRecord slot e new).entry n =
      ((s.setSlot slot (some { e with record := new })).followRecord slot e.record new).entry n :=
    fun n hn hn1 => by
      unfold State.updateRecord
      dsimp only
      split
      · exact State.entry_judge_of_ne (by omega)
      · rfl
  have heff : ∀ (k : CondKind) (u : State), k.cls = .value → u.raiseTakesEffect k = true := fun k u hk => by
    simp [State.raiseTakesEffect, hk]
  set u := s.setSlot slot (some { e with record := new })
  set h1 := u.follow .valueHeld slot (e.record.quality == .held) (new.quality == .held)
  set h2 := h1.follow .valueSubstituted slot (e.record.quality == .substitute) (new.quality == .substitute)
  have l0 : u.cond.entries.length = 121 := hlen
  have l1 : h1.cond.entries.length = 121 := (State.follow_raised ..).entries.trans l0
  have l2 : h2.cond.entries.length = 121 := (State.follow_raised ..).entries.trans l1
  have eheld : CondKind.valueHeld.entry slot = 45 + slot := by simp [CondKind.entry, CondKind.first]; omega
  have esubst : CondKind.valueSubstituted.entry slot = 60 + slot := by
    simp [CondKind.entry, CondKind.first]; omega
  have eclamp : CondKind.valueClamped.entry slot = 75 + slot := by simp [CondKind.entry, CondKind.first]; omega
  have hfollow : (u.followRecord slot e.record new) =
      h2.follow .valueClamped slot e.record.clamped new.clamped := rfl
  refine ⟨?_, ?_, ?_⟩
  · rw [hjudge _ (by omega) (by omega), hfollow, State.entry_follow_of_ne _ _ (by omega),
      State.entry_follow_of_ne _ _ (by omega), ← eheld,
      State.entry_follow_self (heff _ _ rfl) (by omega)]
    rfl
  · rw [hjudge _ (by omega) (by omega), hfollow, State.entry_follow_of_ne _ _ (by omega), ← esubst,
      State.entry_follow_self (heff _ _ rfl) (by omega), State.entry_follow_of_ne _ _ (by omega)]
    rfl
  · rw [hjudge _ (by omega) (by omega), hfollow, ← eclamp,
      State.entry_follow_self (heff _ _ rfl) (by omega), State.entry_follow_of_ne _ _ (by omega),
      State.entry_follow_of_ne _ _ (by omega)]
    rfl

end Sys2Proof.Machine
end

section
/-!
Live value records: what an OK frame, a FAULT frame and the two timer expiries make of a record, and what
they leave (R10 to R14).
-/

namespace Sys2Proof.Machine

variable {s t u : State}

/-! ### What raises and judgments keep of the batch -/

theorem State.Raised.counter (h : s.Raised t) : t.batch.counter = s.batch.counter := by
  obtain ⟨f, -, hb⟩ := h.schedule
  rw [hb]

/-- But for its level-3 count the schedule stands. -/
theorem State.Raised.schedule_level3 (h : s.Raised t) :
    t.batch.schedule.map (fun b => { b with level3 := 0 }) =
      s.batch.schedule.map (fun b => { b with level3 := 0 }) := by
  obtain ⟨f, hf, hb⟩ := h.schedule
  rw [hb]
  cases s.batch.schedule with
  | nil => rfl
  | cons b rest =>
    simp only [List.modifyHead_cons, List.map_cons]
    rw [hf b]

theorem State.Raised.setDetector (h : s.Raised t) (d : Detector) :
    (s.setDetector d).Raised (t.setDetector d) := by
  obtain ⟨f, hf, hb⟩ := h.schedule
  refine ⟨?_, h.levels, h.notices, h.entries, f, hf, ?_⟩
  · conv_lhs => rw [h.eq]
    rfl
  · simp only [State.setDetector, hb]

/-- A record's change writes its slot and may move the detector; the rest is raises and returns. -/
theorem State.updateRecord_effect (s : State) (slot : Nat) (e : MapEntry) (new : LiveRecord) :
    ∃ d, ((s.setSlot slot (some { e with record := new })).setDetector d).Raised
      (s.updateRecord slot e new) := by
  have hr := (s.setSlot slot (some { e with record := new })).followRecord_raised slot e.record new
  unfold State.updateRecord
  dsimp only
  split
  · obtain ⟨d, g, -⟩ := State.judge_effect
      ((s.setSlot slot (some { e with record := new })).followRecord slot e.record new)
    exact ⟨d, (hr.setDetector d).trans g⟩
  · exact ⟨s.batch.detector, hr⟩

theorem State.slotEntry_updateRecord_self {slot : Nat} {e x : MapEntry} (h : s.slotEntry slot = some x)
    (new : LiveRecord) : (s.updateRecord slot e new).slotEntry slot = some { e with record := new } := by
  obtain ⟨d, g⟩ := s.updateRecord_effect slot e new
  rw [State.slotEntry_congr (congrArg _ g.points)]
  exact State.slotEntry_setSlot_self h _

theorem State.slotEntry_updateRecord_of_ne {slot n : Nat} {e x : MapEntry} (h : s.slotEntry slot = some x)
    (hn : n ≠ slot) (new : LiveRecord) : (s.updateRecord slot e new).slotEntry n = s.slotEntry n := by
  obtain ⟨d, g⟩ := s.updateRecord_effect slot e new
  rw [State.slotEntry_congr (congrArg _ g.points)]
  exact State.slotEntry_setSlot_of_ne h hn _

/-! ### The acceptance of a frame -/

theorem State.slotEntry_accept_self {slot : Nat} {e x : MapEntry} (h : s.slotEntry slot = some x) (f : Frame)
    (c : Acceptance) : (s.accept slot e f c).slotEntry slot =
      some { e with record := { e.record with last := some f.seqEpoch } } := by
  rw [State.slotEntry_congr (congrArg _ (s.accept_raised slot e f c).points)]
  exact State.slotEntry_setSlot_self h _

theorem State.slotEntry_accept_of_ne {slot n : Nat} {e x : MapEntry} (h : s.slotEntry slot = some x)
    (hn : n ≠ slot) (f : Frame) (c : Acceptance) : (s.accept slot e f c).slotEntry n = s.slotEntry n := by
  rw [State.slotEntry_congr (congrArg _ (s.accept_raised slot e f c).points)]
  exact State.slotEntry_setSlot_of_ne h hn _

theorem State.accept_header (s : State) (slot : Nat) (e : MapEntry) (f : Frame) (c : Acceptance) :
    (s.accept slot e f c).points.header = s.points.header :=
  (congrArg PointUnit.header (s.accept_raised slot e f c).points :)

theorem State.valueConfig_congr (hr : t.runs = s.runs) (hh : t.points.header = s.points.header) (role : Role) :
    t.valueConfig role = s.valueConfig role := by
  simp only [State.valueConfig, State.run, hr, hh]

/-- What follows from one state follows from another with the same entries 31 … 121. -/
theorem State.LatchedFollow.of_entries {slot : Nat} {before after : LiveRecord}
    (h : u.LatchedFollow t slot before after) (hslot : 1 ≤ slot ∧ slot ≤ 15)
    (he : ∀ n, 31 ≤ n → u.entry n = s.entry n) : s.LatchedFollow t slot before after := by
  obtain ⟨hheld, hsubst, hclamp⟩ := h
  rw [he _ (by omega)] at hheld hsubst hclamp
  exact ⟨hheld, hsubst, hclamp⟩

/-- From the arrival of a sample frame to the change of its record the VALUE conditions follow the
record. -/
theorem State.accept_updateRecord_latched {slot : Nat} {e : MapEntry} (hw : s.TablesWhole)
    (h : s.slotEntry slot = some e) (f : Frame) (c : Acceptance) (new : LiveRecord) :
    s.LatchedFollow ((s.popHead.accept slot e f c).updateRecord slot
      { e with record := { e.record with last := some f.seqEpoch } } new) slot e.record new := by
  have hslot : 1 ≤ slot ∧ slot ≤ 15 := hw.slots ▸ State.slotEntry_bounds h
  have hlen : (s.popHead.accept slot e f c).cond.entries.length = 121 :=
    (State.accept_raised ..).entries.trans hw.entries
  obtain ⟨hheld, hsubst, hclamp⟩ := (State.updateRecord_latched hslot hlen
    { e with record := { e.record with last := some f.seqEpoch } } new).of_entries hslot
      fun n hn => State.entry_accept_of_ne hslot.2 hn e f c
  exact ⟨hheld, hsubst, hclamp⟩

/-! ### The records that the rules form -/

theorem State.testHigh_eq (s : State) (role : Role) (rec : LiveRecord) :
    s.testHigh role rec = { rec with aboveHigh := (s.testHigh role rec).aboveHigh } := by
  unfold State.testHigh
  split <;> rfl

theorem State.testHigh_water (s : State) {rec : LiveRecord} {v : Int} (hv : rec.value = some v) :
    (s.testHigh .headerWater rec).aboveHigh = decide (s.points.header.waterLimit < v) := by
  simp [State.testHigh, hv]

theorem ValueConfig.clamp_eq (c : ValueConfig) (v : Int) :
    c.clamp v = (if v < c.low then c.low else if c.high < v then c.high else v,
      decide (v < c.low ∨ c.high < v)) := by
  unfold ValueConfig.clamp
  split
  · next h => simp [h]
  · next h =>
    split
    · next h' => simp [h']
    · next h' => simp [h, h']

/-- What an OK frame makes of a record (R10). -/
theorem State.takeValue_eq (s : State) (c : ValueConfig) (role : Role) (rec : LiveRecord) (v : Int) :
    s.takeValue c role rec v = { rec with
      quality := .good, value := some (c.clamp v).1, clamped := (c.clamp v).2
      aboveHigh := (s.takeValue c role rec v).aboveHigh
      staleTimer := some (s.now + c.stale), holdTimer := none } := by
  unfold State.takeValue
  exact State.testHigh_eq ..

theorem State.takeValue_water (s : State) (c : ValueConfig) (rec : LiveRecord) (v : Int) :
    (s.takeValue c .headerWater rec v).aboveHigh =
      decide (s.points.header.waterLimit < (c.clamp v).1) := by
  unfold State.takeValue
  exact State.testHigh_water _ rfl

/-- What a record in SUBSTITUTE holds (R13). -/
theorem State.toSubstitute_eq (s : State) (c : ValueConfig) (role : Role) (rec : LiveRecord) :
    s.toSubstitute c role rec = { rec with
      quality := .substitute, value := c.sub.or rec.value, clamped := false
      aboveHigh := (s.toSubstitute c role rec).aboveHigh, staleTimer := none, holdTimer := none } := by
  unfold State.toSubstitute
  exact State.testHigh_eq ..

theorem State.toSubstitute_water (s : State) (c : ValueConfig) (rec : LiveRecord) {v : Int}
    (hv : c.sub.or rec.value = some v) :
    (s.toSubstitute c .headerWater rec).aboveHigh = decide (s.points.header.waterLimit < v) := by
  unfold State.toSubstitute
  exact State.testHigh_water _ hv

/-- Every value role but the density has a substitute (R9). -/
theorem State.valueConfig_sub_or {role : Role} {c : ValueConfig} (h : s.valueConfig role = some c)
    (v : Option Int) : c.sub.or v = if role = .headerDens then v else c.sub := by
  cases role <;> simp only [State.valueConfig, Option.some.injEq, reduceCtorEq] at h
  all_goals subst h
  all_goals rfl

/-! ### VALUE_FRAME -/

theorem exec_valueFrame_of_samples {f : Frame} {slot : Nat} {e : MapEntry}
    (h : s.Samples kindValue f slot e) (hc : classify e.record.last f.seqEpoch ≠ .discarded) :
    exec .valueFrame s = .next (useValue f slot
      { e with record := { e.record with last := some f.seqEpoch } } (classify e.record.last f.seqEpoch)
      (s.popHead.accept slot e f (classify e.record.last f.seqEpoch))).finish :=
  congrArg _ (State.dispatchSample_of_samples h hc useValue)

/-- An OK frame changes its record, and then at most triggers the header slot. -/
theorem useValue_ok {f : Frame} {slot : Nat} {e : MapEntry} {c : ValueConfig} (a : Acceptance)
    (hc : s.valueConfig e.role = some c) (hok : natAt 3 1 f.payload = 0) :
    (s.updateRecord slot e (s.takeValue c e.role e.record (intAt 4 4 f.payload))).Triggered
      (useValue f slot e a s).finish := by
  unfold useValue
  rw [hc]
  dsimp only
  rw [if_pos hok, Work.finish_work]
  split
  · exact State.densityHandOff_triggered ..
  · exact .refl _

theorem useValue_fault {f : Frame} {slot : Nat} {e : MapEntry} {c : ValueConfig} (a : Acceptance)
    (hc : s.valueConfig e.role = some c) (hfault : natAt 3 1 f.payload ≠ 0) :
    (useValue f slot e a s).finish = s.updateRecord slot e (s.takeFault c e.role e.record) := by
  unfold useValue
  rw [hc]
  dsimp only
  rw [if_neg hfault, Work.finish_work]

/-- Settles O29, through the record that `takeValue` forms and the effects of its change. -/
theorem valueFrameTakesTheValue : Obligations.ValueFrameTakesTheValue := by
  intro s f slot e c hs hclass hconfig hok
  have hslot : s.slotEntry slot = some e := (State.sampleEntry_eq_some hs.2.2.2.2.2).1
  set a := s.popHead.accept slot e f (classify e.record.last f.seqEpoch) with ha
  set e' : MapEntry := { e with record := { e.record with last := some f.seqEpoch } }
  have hacc := s.popHead.accept_raised slot e f (classify e.record.last f.seqEpoch)
  rw [← ha] at hacc
  have hheader : a.points.header = s.points.header := State.accept_header ..
  have hnow : a.now = s.now := hacc.now
  have hconfig' : a.valueConfig e'.role = some c :=
    (State.valueConfig_congr hacc.runs hheader _).trans hconfig
  have hself : a.slotEntry slot = some e' := State.slotEntry_accept_self (s := s.popHead) hslot ..
  have htrig := useValue_ok (slot := slot) (classify e.record.last f.seqEpoch) hconfig' hok
  set rec := a.takeValue c e'.role e'.record (intAt 4 4 f.payload) with hrec
  have hfields := a.takeValue_eq c e'.role e'.record (intAt 4 4 f.payload)
  rw [← hrec, ValueConfig.clamp_eq] at hfields
  obtain ⟨d, hup⟩ := a.updateRecord_effect slot e' rec
  refine ⟨_, rec, exec_valueFrame_of_samples hs hclass, ?_, fun n hn => ?_, ?_, ?_, ?_, ?_, ?_, ?_,
    fun hwater v hv => ?_, fun hw => ?_, ?_, ?_, ?_, ?_, ?_, ?_, ?_, ?_, ?_, ?_⟩
  · rw [State.slotEntry_congr (congrArg _ htrig.points), State.slotEntry_updateRecord_self hself]
  · rw [State.slotEntry_congr (congrArg _ htrig.points), State.slotEntry_updateRecord_of_ne hself hn]
    exact State.slotEntry_accept_of_ne (s := s.popHead) hslot hn ..
  · rw [hfields]
  · rw [hfields]
  · rw [hfields]
  · rw [hfields]
  · rw [hfields, hnow]
  · rw [hfields]
  · have hrole : e'.role = .headerWater := hwater
    rw [hrec, hrole, State.takeValue_water, hheader]
    rw [hrec, State.takeValue_eq] at hv
    rw [Option.some.inj hv]
  · have hlatched := State.accept_updateRecord_latched hw hslot f (classify e.record.last f.seqEpoch) rec
    rw [← ha] at hlatched
    refine ⟨?_, ?_, ?_⟩
    · rw [State.entry_congr (congrArg _ htrig.cond)]; exact hlatched.held
    · rw [State.entry_congr (congrArg _ htrig.cond)]; exact hlatched.substituted
    · rw [State.entry_congr (congrArg _ htrig.cond)]; exact hlatched.clamped
  · rw [htrig.batch, hup.counter]; exact hacc.counter
  · rw [htrig.batch, hup.schedule_level3]; exact hacc.schedule_level3
  · exact htrig.runs.trans (hup.runs.trans hacc.runs)
  · exact htrig.chain.trans (hup.chain.trans hacc.chain)
  · exact htrig.totals.trans (hup.totals.trans hacc.totals)
  · exact htrig.tickets.trans (hup.tickets.trans hacc.tickets)
  · exact htrig.tables.trans (hup.tables.trans hacc.tables)
  · exact htrig.shifts.trans (hup.shifts.trans hacc.shifts)
  · exact htrig.prover.trans (hup.prover.trans hacc.prover)
  · exact htrig.mgmt.trans (hup.mgmt.trans hacc.mgmt)

end Sys2Proof.Machine
end

section
/-!
How a live value record goes down: the FAULT frame and the expiry of its stale and hold timers (R11 to R13).
-/

namespace Sys2Proof.Machine

variable {s t u : State}

theorem State.goDown_of_hold {c : ValueConfig} (h : 0 < c.hold) (s : State) (role : Role) (rec : LiveRecord) :
    s.goDown c role rec =
      { rec with quality := .held, staleTimer := none, holdTimer := some (s.now + c.hold) } := if_pos h

theorem State.goDown_of_no_hold {c : ValueConfig} (h : c.hold = 0) (s : State) (role : Role)
    (rec : LiveRecord) : s.goDown c role rec = s.toSubstitute c role rec := if_neg (by omega)

theorem State.goDown_staleTimer (s : State) (c : ValueConfig) (role : Role) (rec : LiveRecord) :
    (s.goDown c role rec).staleTimer = none := by
  unfold State.goDown
  split
  · rfl
  · rw [State.toSubstitute_eq]

/-- Only a GOOD record goes down at a FAULT frame (R11). -/
theorem State.takeFault_of_good {rec : LiveRecord} (h : rec.quality = .good) (s : State) (c : ValueConfig)
    (role : Role) : s.takeFault c role rec = s.goDown c role rec := by simp [State.takeFault, h]

theorem State.takeFault_of_not_good {rec : LiveRecord} (h : rec.quality ≠ .good) (s : State)
    (c : ValueConfig) (role : Role) : s.takeFault c role rec = rec := by
  unfold State.takeFault
  split
  · next hg => exact absurd hg h
  all_goals rfl

/-- The record that R13 asks for: what `toSubstitute` makes, where the configuration is the role's own. -/
theorem State.toSubstitute_fields {role : Role} {c : ValueConfig} (h : s.valueConfig role = some c)
    (hheader : u.points.header = s.points.header) (rec : LiveRecord) :
    (u.toSubstitute c role rec).quality = .substitute ∧
      (u.toSubstitute c role rec).value = (if role = .headerDens then rec.value else c.sub) ∧
      (u.toSubstitute c role rec).clamped = false ∧ (u.toSubstitute c role rec).staleTimer = none ∧
      (u.toSubstitute c role rec).holdTimer = none ∧
      (role = .headerWater → ∀ v, (u.toSubstitute c role rec).value = some v →
        (u.toSubstitute c role rec).aboveHigh = decide (s.points.header.waterLimit < v)) := by
  have hvalue : (u.toSubstitute c role rec).value = c.sub.or rec.value := by rw [State.toSubstitute_eq]
  refine ⟨by rw [State.toSubstitute_eq], hvalue.trans (State.valueConfig_sub_or h _),
    by rw [State.toSubstitute_eq], by rw [State.toSubstitute_eq], by rw [State.toSubstitute_eq], ?_⟩
  rintro rfl v hv
  rw [State.toSubstitute_water u c rec (hvalue.symm.trans hv), hheader]

/-! ### The timer expiries -/

theorem exec_staleTimerExpiry_eq {slot expiry : Nat} {e : MapEntry} {c : ValueConfig} (hheld : s.held = false)
    (hslot : s.slotEntry slot = some e) (htimer : e.record.staleTimer = some expiry)
    (hc : s.valueConfig e.role = some c) :
    exec (.staleTimerExpiry slot) s = .next ((s.passTo expiry).updateRecord slot e
      ((s.passTo expiry).goDown c e.role e.record)) := by
  simp [exec, execStaleTimerExpiry, State.whenRunning, hheld, hslot, htimer, hc]

theorem exec_holdTimerExpiry_eq {slot expiry : Nat} {e : MapEntry} {c : ValueConfig} (hheld : s.held = false)
    (hslot : s.slotEntry slot = some e) (htimer : e.record.holdTimer = some expiry)
    (hc : s.valueConfig e.role = some c) :
    exec (.holdTimerExpiry slot) s = .next ((s.passTo expiry).updateRecord slot e
      ((s.passTo expiry).toSubstitute c e.role e.record)) := by
  simp [exec, execHoldTimerExpiry, State.whenRunning, hheld, hslot, htimer, hc]

/-- A record that changes at a timer expiry: the clock, the slot, the conditions that follow and what
stays. -/
theorem State.passTo_updateRecord {slot : Nat} {e : MapEntry} (hslot : s.slotEntry slot = some e)
    (expiry : Nat) (new : LiveRecord) :
    ((s.passTo expiry).updateRecord slot e new).now = max s.now expiry ∧
      ((s.passTo expiry).updateRecord slot e new).slotEntry slot = some { e with record := new } ∧
      (s.TablesWhole → s.LatchedFollow ((s.passTo expiry).updateRecord slot e new) slot e.record new) ∧
      ((s.passTo expiry).updateRecord slot e new).runs = s.runs ∧
      ((s.passTo expiry).updateRecord slot e new).chain = s.chain ∧
      ((s.passTo expiry).updateRecord slot e new).totals = s.totals := by
  obtain ⟨d, g⟩ := (s.passTo expiry).updateRecord_effect slot e new
  refine ⟨g.now, State.slotEntry_updateRecord_self (s := s.passTo expiry) hslot _, fun hw => ?_, g.runs,
    g.chain, g.totals⟩
  obtain ⟨hheld, hsubst, hclamp⟩ := State.updateRecord_latched (s := s.passTo expiry)
    (hw.slots ▸ State.slotEntry_bounds hslot) hw.entries e new
  exact ⟨hheld, hsubst, hclamp⟩

/-- Settles O30: each of the three events is one change of the record. -/
theorem valueRecordGoesDown : Obligations.ValueRecordGoesDown := by
  refine ⟨?_, ?_, ?_⟩
  · intro s f slot e c hs hclass hconfig hfault
    have hslot : s.slotEntry slot = some e := (State.sampleEntry_eq_some hs.2.2.2.2.2).1
    have hacc := s.popHead.accept_raised slot e f (classify e.record.last f.seqEpoch)
    set a := s.popHead.accept slot e f (classify e.record.last f.seqEpoch) with ha
    set e' : MapEntry := { e with record := { e.record with last := some f.seqEpoch } }
    have hheader : a.points.header = s.points.header := State.accept_header ..
    have hnow : a.now = s.now := hacc.now
    have hconfig' : a.valueConfig e'.role = some c :=
      (State.valueConfig_congr hacc.runs hheader _).trans hconfig
    have hself : a.slotEntry slot = some e' := State.slotEntry_accept_self (s := s.popHead) hslot ..
    refine ⟨_, a.takeFault c e'.role e'.record,
      (exec_valueFrame_of_samples hs hclass).trans (congrArg _ (useValue_fault _ hconfig' hfault)),
      State.slotEntry_updateRecord_self hself _, ?_, fun hw => ?_, fun hgood hhold => ?_,
      fun hgood hhold => ?_, fun hgood => ?_⟩
    · by_cases hgood : e'.record.quality = .good
      · rw [State.takeFault_of_good hgood]
        unfold State.goDown
        split
        · rfl
        · rw [State.toSubstitute_eq]
      · rw [State.takeFault_of_not_good (rec := e'.record) hgood]
    · exact State.accept_updateRecord_latched hw hslot f _ _
    · rw [State.takeFault_of_good (rec := e'.record) hgood, State.goDown_of_hold hhold, hnow]
    · rw [State.takeFault_of_good (rec := e'.record) hgood, State.goDown_of_no_hold hhold]
      exact State.toSubstitute_fields hconfig hheader e'.record
    · rw [State.takeFault_of_not_good (rec := e'.record) hgood]
  · intro s slot e c expiry hheld hslot htimer hconfig
    obtain ⟨hnow, hself, hlatched, hframe⟩ := State.passTo_updateRecord hslot expiry
      ((s.passTo expiry).goDown c e.role e.record)
    refine ⟨_, _, exec_staleTimerExpiry_eq hheld hslot htimer hconfig, hnow, hself,
      State.goDown_staleTimer .., hlatched, fun hhold => ?_, fun hhold => ?_, hframe⟩
    · rw [State.goDown_of_hold hhold]; rfl
    · rw [State.goDown_of_no_hold hhold]
      exact State.toSubstitute_fields (u := s.passTo expiry) hconfig rfl e.record
  · intro s slot e c expiry hheld hslot htimer hconfig
    obtain ⟨hnow, hself, hlatched, hframe⟩ := State.passTo_updateRecord hslot expiry
      ((s.passTo expiry).toSubstitute c e.role e.record)
    exact ⟨_, _, exec_holdTimerExpiry_eq hheld hslot htimer hconfig, hnow, hself,
      State.toSubstitute_fields (u := s.passTo expiry) hconfig rfl e.record, hlatched, hframe⟩

end Sys2Proof.Machine
end

section
/-!
The closed facts and the requests of the Point Unit and the readers: the values after a power-on reset, the
acceptance table, the reading requests, and the point map's requests (R2, R3, R5, R24, R36, R87, R109, R138,
R152).
-/

namespace Sys2Proof.Machine

variable {s t : State}

/-- Settles O2, block by block on `State.reset`. -/
theorem powerOnValues : Obligations.PowerOnValues := by
  have hslot : ∀ slot, State.reset.slotEntry slot = none := fun slot => by
    refine Option.eq_none_iff_forall_ne_some.2 fun e he => ?_
    have hget := (State.slotEntry_eq_some.1 he).2
    simp [State.reset, List.getElem?_replicate] at hget
  have hentry : ∀ n, State.reset.entry n = ⟨.normal, 0, none, false⟩ := fun n => by
    unfold State.entry State.reset
    cases h : (List.replicate Config.conditionEntries CondEntry.normal)[n - 1]? with
    | none => rfl
    | some x =>
      obtain rfl := List.eq_of_mem_replicate (List.mem_of_getElem? h)
      rfl
  have hnotice : ∀ id, State.reset.notice id = ⟨none, none, false, none, 0⟩ := fun id => by
    cases id with
    | proveState r => exact Four.get_const _ r
    | _ => rfl
  refine ⟨hslot, rfl, fun r => ?_, fun r => ?_, fun k => ?_, fun r => ?_, ⟨rfl, rfl, rfl⟩, fun r => ?_, rfl,
    fun r k => ?_, ⟨rfl, rfl, fun r => ?_⟩, hentry, rfl, rfl, hnotice, ⟨rfl, rfl, rfl, rfl⟩, rfl, rfl, rfl,
    rfl, rfl, rfl, rfl, rfl, rfl, rfl, fun r => ?_, rfl, rfl, rfl, rfl⟩
  · cases r <;> rfl
  · cases r <;> exact ⟨rfl, rfl, rfl, rfl, rfl, rfl⟩
  · cases k <;> rfl
  · cases r <;> rfl
  · cases r <;> rfl
  · cases r <;> cases k <;> rfl
  · cases r <;> rfl
  · cases r <;> rfl

/-- Settles O19: with sequences below 256 the distance that `classify` forms is the one given. -/
theorem acceptanceTable : Obligations.AcceptanceTable := by
  refine ⟨fun x => rfl, fun l x he => if_pos he, fun l x d he hl hd hx => ?_⟩
  have hdist : (x.seq + 256 - l.seq) % 256 = d := by omega
  simp [classify, he, hdist]

/-! ### Parameters of one byte -/

theorem natAt_zero_cons (a : Byte) (p : List Byte) : natAt 0 1 (a :: p) = a.toNat := by
  simp [natAt, slice, natOf]

theorem natAt_succ_cons (i w : Nat) (a : Byte) (p : List Byte) : natAt (i + 1) w (a :: p) = natAt i w p := by
  simp [natAt, slice]

theorem natAt_append_of_length_eq {p q : List Byte} {i w : Nat} (h : p.length = i) :
    natAt i w (p ++ q) = natAt 0 w q := by
  simp [natAt, slice, ← h]

theorem natAt_zero_append {p q : List Byte} {w : Nat} (h : p.length = w) : natAt 0 w (p ++ q) = natOf p := by
  simp [natAt, slice, ← h]

/-- A request of a kind of fixed length, with parameters of that length, is answered by its owner. -/
theorem State.request_fits {f : Frame} {k : Nat} {p : List Byte} (h : s.Requests k f p)
    (owner : List Byte → State → Answer) (hk : k < 256 ∧ k ≠ 8 ∧ k ≠ 28 := by decide)
    (hlen : fixedLength k = some p.length := by rfl) :
    s.request k owner = (owner p s.popHead).conclude f := by
  have hfit : lengthFits k p = true := by simp [lengthFits, requiredLength, hk, hlen]
  rw [State.request_of_requests h hk.1, if_pos hfit]

/-- A request whose owner changes nothing is answered and nothing else happens. -/
theorem State.request_answered {f : Frame} {k : Nat} {p b : List Byte} {x : Result}
    {owner : List Byte → State → Answer} (h : s.Requests k f p)
    (ha : owner p s.popHead = ⟨s.popHead.work, x, b⟩) (hk : k < 256 ∧ k ≠ 8 ∧ k ≠ 28 := by decide)
    (hlen : fixedLength k = some p.length := by rfl) :
    s.request k owner = s.answered f x b := by
  rw [State.request_fits h owner hk hlen, ha]
  rfl

/-! ### The readers on their parameters -/

theorem readLiveRequest_point (a : Byte) (s : State) :
    readLiveRequest [0, a] s = s.livePoint a.toNat := by
  simp [readLiveRequest, natAt_zero_cons, natAt_succ_cons]

theorem readLiveRequest_run {a : Byte} {r : RunNo} (h : Num4.ofNat? a.toNat = some r) (s : State) :
    readLiveRequest [1, a] s = s.report (s.liveRun r) := by
  simp [readLiveRequest, runAt, natAt_zero_cons, natAt_succ_cons, h]

theorem readLiveRequest_header (a : Byte) (s : State) :
    readLiveRequest [2, a] s = s.report (s.roleBytes .headerDens ++ s.roleBytes .headerWater) := by
  simp [readLiveRequest, natAt_zero_cons]

theorem State.livePoint_found {id slot : Nat} {e : MapEntry} (hid : id ≤ 254)
    (h : s.findPoint id = some (slot, e)) : s.livePoint id = s.report (byte slot ++ byte e.role.code ++
      optional 1 (fun r : RunNo => byte r.toNat) e.role.run? ++ s.recordBytes e.role e.record) := by
  simp [State.livePoint, h, show id ≠ 255 by omega]

theorem State.livePoint_unmapped {id : Nat} (hid : id ≤ 254) (h : s.findPoint id = none) :
    s.livePoint id = s.refuse .notFound := by
  simp [State.livePoint, h, show id ≠ 255 by omega]

theorem readSetInfoRequest_set {a : Byte} {k : SetNo} (h : Num4.ofNat? a.toNat = some k) (s : State) :
    readSetInfoRequest [a] s = s.report (setInfo s k) := by
  simp [readSetInfoRequest, setAt, natAt_zero_cons, h]

theorem readScheduleRequest_list (a : Byte) (s : State) :
    readScheduleRequest [0, a] s = s.report s.scheduleList := by
  simp [readScheduleRequest, natAt_zero_cons]

theorem readScheduleRequest_active {b : BatchEntry} (a : Byte) (h : s.activeBatch = some b) :
    readScheduleRequest [1, a] s = s.report (s.activeReport b) := by
  simp [readScheduleRequest, natAt_zero_cons, h]

theorem readScheduleRequest_run {a : Byte} {b : BatchEntry} {r : RunNo} (h : s.activeBatch = some b)
    (hr : Num4.ofNat? a.toNat = some r) : readScheduleRequest [2, a] s =
      s.report ((b.records.get r).figures ++ (b.records.get r).sums) := by
  simp [readScheduleRequest, runAt, natAt_zero_cons, natAt_succ_cons, h, hr]

theorem readProveRequest_prover (s : State) : readProveRequest [0] s = s.report s.proverReport := by
  simp [readProveRequest, natAt_zero_cons]

theorem readProveRequest_run {a : Byte} {r : RunNo} (h : Num4.ofNat? a.toNat = some r) (s : State) :
    readProveRequest [a] s = s.report (s.proveReport r) := by
  unfold readProveRequest
  rw [natAt_zero_cons]
  split
  · next h0 => rw [h0] at h; cases h
  · rw [h]

/-- READ_TICKET reads the section of the ticket that its selector and sequence name (R109). -/
theorem readTicketRequest_selected {a i : Byte} {p : List Byte} {ticket : Option Ticket} (hp : p.length = 4)
    (h : (a = 0 ∧ ticket = s.tickets.head?) ∨
      (a = 1 ∧ ticket = s.tickets.find? fun x => x.seq == natOf p)) :
    readTicketRequest (a :: (p ++ [i])) s = s.readSection ticket i.toNat := by
  have hsection : natAt 5 1 (a :: (p ++ [i])) = i.toNat := by
    rw [natAt_succ_cons, natAt_append_of_length_eq hp, natAt_zero_cons]
  have hseq : natAt 1 4 (a :: (p ++ [i])) = natOf p := by rw [natAt_succ_cons, natAt_zero_append hp]
  unfold readTicketRequest
  rw [hsection, hseq, natAt_zero_cons]
  obtain ⟨rfl, rfl⟩ | ⟨rfl, rfl⟩ := h
  · rfl
  · rfl

/-- A ticket has no section at or beyond its section count (R110). -/
theorem Ticket.sectionBytes_eq_none {x : Ticket} {i : Nat} (h : x.sections.length + 2 ≤ i) :
    x.sectionBytes i = none := by
  have hnone : x.sections[i - 1]? = none := List.getElem?_eq_none (by omega)
  simp [Ticket.sectionBytes, hnone, show i ≠ 0 by omega, show i ≠ x.sections.length + 1 by omega]

theorem State.readSection_found {x : Ticket} {i : Nat} {content : List Byte}
    (h : x.sectionBytes i = some content) (s : State) : s.readSection (some x) i =
      s.report (field 4 x.seq ++ byte i ++ byte (x.sections.length + 2) ++ byte s.tickets.length ++ content) := by
  simp [State.readSection, h, Ticket.sectionCount]

theorem State.readSection_absent {x : Ticket} {i : Nat} (h : x.sections.length + 2 ≤ i) (s : State) :
    s.readSection (some x) i = s.refuse .notFound := by
  simp [State.readSection, Ticket.sectionBytes_eq_none h]

theorem readConditionsRequest_notices (c start : Byte) (s : State) :
    readConditionsRequest [4, c, start] s = s.report (s.noticeList ++ s.tableFields) := by
  simp [readConditionsRequest, natAt_zero_cons]

theorem readConditionsRequest_entries {a c start : Byte} {entries : List (Nat × CondEntry)}
    (ha : a.toNat ≤ 3) (h : s.chosen a.toNat c.toNat = some entries)
    (hstart : 1 ≤ start.toNat ∧ start.toNat ≤ 121) :
    readConditionsRequest [a, c, start] s =
      s.report ((((entries.filter fun e => decide (start.toNat ≤ e.1)).take 11).flatMap
          fun e => s.entryFields e.1 e.2 ++ flag e.2.pending) ++
        optional 1 byte (((entries.filter fun e => decide (start.toNat ≤ e.1)).drop 11).head?.map (·.1)) ++
        s.tableFields) := by
  have hin : within 1 Config.conditionEntries start.toNat = true := decide_eq_true hstart
  simp [readConditionsRequest, natAt_zero_cons, natAt_succ_cons, h, hin, show a.toNat ≠ 4 by omega]

/-- Settles O24: each reading request meets the length of its kind, and its owner reports. -/
theorem readsChangeNothing : Obligations.ReadsChangeNothing := by
  refine ⟨fun s f a => ⟨fun h => ?_, fun r h hr => ?_, fun h ha => ⟨fun slot e he => ?_, fun hn => ?_⟩,
    fun k h hk => ?_, fun h => ?_, fun b h hb => ?_, fun b r h hb hr => ?_, fun h => ?_, fun r h hr => ?_⟩,
    fun s f a i p ticket hp h hticket => ?_, fun s f a c start h => ⟨fun entries ha hch h1 h121 => ?_, ?_⟩⟩
  · exact congrArg _ (State.request_answered h (readLiveRequest_header a _))
  · exact congrArg _ (State.request_answered h (readLiveRequest_run hr _))
  · exact congrArg _ (State.request_answered h
      ((readLiveRequest_point a _).trans (State.livePoint_found (s := s.popHead) ha he)))
  · exact congrArg _ (State.request_answered h
      ((readLiveRequest_point a _).trans (State.livePoint_unmapped (s := s.popHead) ha hn)))
  · exact congrArg _ (State.request_answered h (readSetInfoRequest_set hk _))
  · exact congrArg _ (State.request_answered h (readScheduleRequest_list a _))
  · exact congrArg _ (State.request_answered h (readScheduleRequest_active (s := s.popHead) a hb))
  · exact congrArg _ (State.request_answered h (readScheduleRequest_run (s := s.popHead) hb hr))
  · exact congrArg _ (State.request_answered h (readProveRequest_prover _))
  · exact congrArg _ (State.request_answered h (readProveRequest_run hr _))
  · have hlen : fixedLength 17 = some (a :: (p ++ [i])).length := by simp [fixedLength, hp]
    have hread := readTicketRequest_selected (s := s.popHead) (i := i) hp hticket
    refine ⟨fun x content hx hcontent => ?_, fun x hx hbeyond => ?_, fun hnone => ?_⟩
    · subst hx
      exact congrArg _ (State.request_answered h
        (hread.trans (State.readSection_found hcontent _)) (hlen := hlen))
    · subst hx
      exact congrArg _ (State.request_answered h
        (hread.trans (State.readSection_absent hbeyond _)) (hlen := hlen))
    · subst hnone
      exact congrArg _ (State.request_answered h hread (hlen := hlen))
  · exact congrArg _ (State.request_answered h
      (readConditionsRequest_entries (s := s.popHead) ha hch ⟨h1, h121⟩))
  · rintro rfl
    exact congrArg _ (State.request_answered h
      (readConditionsRequest_notices c start _))

/-! ### MAP_POINT and UNMAP_POINT -/

/-- Settles O26: a fresh mapping and an unmapping, past every check of R2 and R3. -/
theorem mapAndUnmapPoint : Obligations.MapAndUnmapPoint := by
  refine ⟨fun s f a b c role slot h hrole ha hfind hcond htaken hfree => ?_,
    fun s f a slot e h hfind hcond => ?_⟩
  · refine congrArg _ ((State.request_fits h _).trans ?_)
    have howner : mapPointRequest [a, b, c] s.popHead =
        (s.popHead.mapSlot slot a.toNat role).answerDone (byte slot) := by
      unfold mapPointRequest
      rw [natAt_succ_cons, natAt_succ_cons, natAt_succ_cons, natAt_zero_cons, natAt_zero_cons,
        natAt_zero_cons, hrole]
      have hfind' : s.popHead.findPoint a.toNat = none := hfind
      have hcond' : s.popHead.roleCondition role = true := hcond
      have htaken' : s.popHead.roleTaken role a.toNat = false := htaken
      have hfree' : s.popHead.freeSlot = some slot := hfree
      simp [hfind', hcond', htaken', hfree', show ¬ 254 < a.toNat by omega]
    rw [howner]
    rfl
  · refine congrArg _ ((State.request_fits h _).trans ?_)
    have howner : unmapPointRequest [a] s.popHead =
        (((s.popHead.setSlot slot none).returnLatched slot).judge).answerDone [] := by
      unfold unmapPointRequest
      have hfind' : s.popHead.findPoint a.toNat = some (slot, e) := hfind
      have hcond' : s.popHead.roleCondition e.role = true := hcond
      simp [natAt_zero_cons, hfind', hcond']
    rw [howner]
    rfl

end Sys2Proof.Machine
end

section
/-!
CONFIGURE_RUN and CONFIGURE_HEADER, and what a new configuration does to the live records (R17 to R19).
-/

namespace Sys2Proof.Machine

variable {s t : State}

/-! ### The record of the point that holds a role -/

theorem State.mapRole_eq (s : State) (role : Role) (f : LiveRecord → LiveRecord) :
    s.mapRole role f = { s with points := { s.points with map := (s.mapRole role f).points.map } } := by
  unfold State.mapRole
  split <;> rfl

theorem State.mapRole_mapRole_eq (s : State) (role other : Role) (f g : LiveRecord → LiveRecord) :
    (s.mapRole role f).mapRole other g = { s with
      points := { s.points with map := ((s.mapRole role f).mapRole other g).points.map } } := by
  refine ((s.mapRole role f).mapRole_eq other g).trans ?_
  generalize ((s.mapRole role f).mapRole other g).points.map = l
  rw [s.mapRole_eq role f]

theorem State.slotEntry_mapRole_self {role : Role} {slot : Nat} {e : MapEntry}
    (h : s.findRole role = some (slot, e)) (f : LiveRecord → LiveRecord) :
    (s.mapRole role f).slotEntry slot = some { e with record := f e.record } := by
  rw [State.mapRole, h]
  exact State.slotEntry_setSlot_self (State.findRole_eq_some h).1 _

theorem State.slotEntry_mapRole_of_ne {role : Role} {slot : Nat}
    (h : ∀ e, s.slotEntry slot = some e → e.role ≠ role) (f : LiveRecord → LiveRecord) :
    (s.mapRole role f).slotEntry slot = s.slotEntry slot := by
  unfold State.mapRole
  split
  · next n e hfind =>
    obtain ⟨hn, hrole⟩ := State.findRole_eq_some hfind
    refine State.slotEntry_setSlot_of_ne hn ?_ _
    rintro rfl
    exact h e hn hrole
  · rfl

theorem State.findRole_mapRole_of_ne {role other : Role} (h : role ≠ other) (f : LiveRecord → LiveRecord) :
    (s.mapRole role f).findRole other = s.findRole other := by
  unfold State.mapRole
  split
  · next n e hfind =>
    obtain ⟨hn, hrole⟩ := State.findRole_eq_some hfind
    exact State.findRole_setSlot_of_ne (e' := { e with record := f e.record }) hn rfl (hrole.symm ▸ h)
  · rfl

theorem LiveRecord.newSubstitute_eq (rec : LiveRecord) (sub : Int) :
    rec.newSubstitute sub = if rec.quality = .noData ∨ rec.quality = .substitute
      then { rec with value := some sub } else rec := by
  unfold LiveRecord.newSubstitute
  cases rec.quality <;> rfl

/-! ### CONFIGURE_RUN -/

/-- The state of an accepted CONFIGURE_RUN before its live records: the run's unit and its IV residue. -/
def State.withRunConfig (s : State) (r : RunNo) (c : RunConfig) : State :=
  { s with
    runs := s.runs.set r { s.run r with config := c, configured := true }
    chain := s.chain.set r { s.chainOf r with
      ivRes := if (s.run r).configured = true ∧ (s.run r).config.kmilli = c.kmilli
        then (s.chainOf r).ivRes else 0 } }

theorem configureRunRequest_accepted {p : List Byte} {r : RunNo} (hr : runAt 0 p = some r)
    (hclosed : (s.run r).state = .closed) (hin : (runConfigOf p).inRange = true) :
    configureRunRequest p s =
      ((((s.withRunConfig r (runConfigOf p)).mapRole (.runTemp r)
        (·.newSubstitute (runConfigOf p).tempSub)).mapRole (.runPres r)
          (·.newSubstitute (runConfigOf p).presSub)).answerDone []) := by
  have hset : (if (s.run r).configured = true ∧ (s.run r).config.kmilli = (runConfigOf p).kmilli
      then s.setRun r { s.run r with config := runConfigOf p, configured := true }
      else (s.setRun r { s.run r with config := runConfigOf p, configured := true }).setChain r
        { s.chainOf r with ivRes := 0 }) = s.withRunConfig r (runConfigOf p) := by
    unfold State.withRunConfig
    split
    · have hchain : s.chain.set r { s.chainOf r with ivRes := (s.chainOf r).ivRes } = s.chain :=
        Four.set_get s.chain r
      rw [hchain]
      rfl
    · rfl
  rw [← hset]
  simp only [configureRunRequest, hr, hclosed, hin, ne_eq, not_true_eq_false, if_false, Bool.not_true,
    Bool.false_eq_true]
  rfl

/-- The records of an accepted CONFIGURE_RUN: the two roles of the run take their substitutes, each in its
own slot, and every other slot stays. -/
theorem State.slotEntry_mapRole_pair {r : RunNo} (f g : LiveRecord → LiveRecord) (u : State)
    (hu : u = (s.mapRole (.runTemp r) f).mapRole (.runPres r) g) :
    (∀ slot e, s.findRole (.runTemp r) = some (slot, e) →
      u.slotEntry slot = some { e with record := f e.record }) ∧
    (∀ slot e, s.findRole (.runPres r) = some (slot, e) →
      u.slotEntry slot = some { e with record := g e.record }) ∧
    (∀ slot, (∀ e, s.slotEntry slot = some e → e.role ≠ .runTemp r ∧ e.role ≠ .runPres r) →
      u.slotEntry slot = s.slotEntry slot) := by
  subst hu
  refine ⟨fun slot e h => ?_, fun slot e h => ?_, fun slot h => ?_⟩
  · have hself := State.slotEntry_mapRole_self h f
    rw [State.slotEntry_mapRole_of_ne _ g, hself]
    intro x hx
    rw [hself] at hx
    obtain rfl := Option.some.inj hx
    rw [(State.findRole_eq_some h).2]
    exact fun hne => nomatch hne
  · exact State.slotEntry_mapRole_self
      ((State.findRole_mapRole_of_ne (by simp) f).trans h) g
  · have htemp := State.slotEntry_mapRole_of_ne (fun e he => (h e he).1) f
    rw [State.slotEntry_mapRole_of_ne (fun e he => (h e (htemp ▸ he)).2) g, htemp]

/-! ### CONFIGURE_HEADER -/

theorem configureHeaderRequest_accepted {p : List Byte} (hdev : s.mgmt.device = .uncommissioned)
    (hin : (headerConfigOf p).inRange = true) :
    configureHeaderRequest p s =
      (({ s with points := { s.points with header := headerConfigOf p } } : State).mapRole .headerWater
        fun rec => ({ s with points := { s.points with header := headerConfigOf p } } : State).testHigh
          .headerWater (rec.newSubstitute (headerConfigOf p).waterSub)).answerDone [] := by
  simp [configureHeaderRequest, State.uncommissioned, hdev, hin]

/-- Settles O27: the checks in order, and the accepted state through `mapRole`. -/
theorem configureRunAndHeader : Obligations.ConfigureRunAndHeader := by
  refine ⟨fun s f p h hp => ⟨fun hr => ?_, fun r hr => ⟨fun hopen => ?_, fun hclosed hout => ?_,
    fun hclosed hin => ?_⟩⟩, fun s f p h hp => ⟨fun hdev => ?_, fun hdev hout => ?_, fun hdev hin => ?_⟩⟩
  · refine congrArg _ (State.request_answered h ?_ (hlen := by rw [hp]; rfl))
    simp only [configureRunRequest, hr]
    rfl
  · refine congrArg _ (State.request_answered h ?_ (hlen := by rw [hp]; rfl))
    have hopen' : (s.popHead.run r).state ≠ .closed := hopen
    simp only [configureRunRequest, hr]
    rw [if_pos hopen']
    rfl
  · refine congrArg _ (State.request_answered h ?_ (hlen := by rw [hp]; rfl))
    have hclosed' : (s.popHead.run r).state = .closed := hclosed
    simp [configureRunRequest, hr, hclosed', hout, State.refuse]
  · have hfits := State.request_fits h configureRunRequest (hlen := by rw [hp]; rfl)
    rw [configureRunRequest_accepted (s := s.popHead) hr hclosed hin] at hfits
    set a := s.popHead.withRunConfig r (runConfigOf p) with ha
    set u := (a.mapRole (.runTemp r) (·.newSubstitute (runConfigOf p).tempSub)).mapRole (.runPres r)
      (·.newSubstitute (runConfigOf p).presSub) with hu
    have hpoints : u = { a with points := { a.points with map := u.points.map } } :=
      a.mapRole_mapRole_eq ..
    obtain ⟨htemp, hpres, hother⟩ := State.slotEntry_mapRole_pair _ _ u hu
    refine ⟨u.queueResponse f .done [], congrArg _ hfits, ?_, ?_, ?_, ?_, ?_, hother⟩
    · exact (congrArg State.runs hpoints :)
    · exact (congrArg State.chain hpoints :)
    · conv_lhs => rw [hpoints]
      conv_rhs => rw [hpoints]
      rfl
    · exact (congrArg (fun x => x.points.header) hpoints :)
    · intro role sub slot e hmem hfind
      simp only [List.mem_cons, Prod.mk.injEq, List.not_mem_nil, or_false] at hmem
      obtain ⟨rfl, rfl⟩ | ⟨rfl, rfl⟩ := hmem
      · rw [← LiveRecord.newSubstitute_eq]
        exact htemp slot e hfind
      · rw [← LiveRecord.newSubstitute_eq]
        exact hpres slot e hfind
  · refine congrArg _ (State.request_answered h ?_ (hlen := by rw [hp]; rfl))
    simp [configureHeaderRequest, State.uncommissioned, State.popHead, hdev, State.refuse]
  · refine congrArg _ (State.request_answered h ?_ (hlen := by rw [hp]; rfl))
    simp [configureHeaderRequest, State.uncommissioned, State.popHead, hdev, hout, State.refuse]
  · have hfits := State.request_fits h configureHeaderRequest (hlen := by rw [hp]; rfl)
    rw [configureHeaderRequest_accepted (s := s.popHead) hdev hin] at hfits
    set a : State := { s.popHead with points := { s.points with header := headerConfigOf p } } with ha
    set g : LiveRecord → LiveRecord := fun rec =>
      a.testHigh .headerWater (rec.newSubstitute (headerConfigOf p).waterSub) with hg
    have hpoints := State.mapRole_eq a .headerWater g
    refine ⟨(a.mapRole .headerWater g).queueResponse f .done [], congrArg _ hfits,
      (congrArg (fun x => x.points.header) hpoints :), ?_, fun slot e hfind => ?_,
      fun slot hslot => State.slotEntry_mapRole_of_ne (s := a) hslot g⟩
    · conv_lhs => rw [hpoints]
      conv_rhs => rw [hpoints]
      rfl
    · set sub := e.record.newSubstitute (headerConfigOf p).waterSub with hsub
      have hrec := LiveRecord.newSubstitute_eq e.record (headerConfigOf p).waterSub
      rw [← hsub] at hrec
      have hvalue : sub.value = (if e.record.quality = .noData ∨ e.record.quality = .substitute
          then some (headerConfigOf p).waterSub else e.record.value) := by
        rw [hrec]; split <;> rfl
      refine ⟨(g e.record).aboveHigh, ?_, fun _ v hv => ?_⟩
      · refine (State.slotEntry_mapRole_self (s := a) hfind g).trans ?_
        have hfields : g e.record = { sub with aboveHigh := (g e.record).aboveHigh } := State.testHigh_eq ..
        rw [← hvalue]
        conv_lhs => rw [hfields, hrec]
        rw [hrec]
        split <;> rfl
      · exact State.testHigh_water a (hvalue.trans hv)

end Sys2Proof.Machine
end

section
/-!
The prover handed on at the end of an ACTIVE prove, the close of a run, and SET_RUN_SERVICE in its two rows
(R20 to R23, R116, R118, R119, R133).
-/

namespace Sys2Proof.Machine

variable {s t u : State}

/-! ### The active batch under raises and returns -/

theorem State.Raised.uncommissioned (h : s.Raised t) : t.uncommissioned = s.uncommissioned := by
  rw [State.uncommissioned, State.uncommissioned, h.mgmt]

/-- But for its level-3 count the active batch stands. -/
theorem State.Raised.activeBatch (h : s.Raised t) : ∃ f : BatchEntry → BatchEntry,
    (∀ b, f b = { b with level3 := (f b).level3 }) ∧ t.activeBatch = s.activeBatch.map f := by
  obtain ⟨f, hf, hb⟩ := h.schedule
  refine ⟨f, hf, ?_⟩
  rw [State.activeBatch, State.activeBatch, h.uncommissioned, hb]
  split
  · rfl
  · cases s.batch.schedule <;> rfl

/-! ### The end of an ACTIVE prove (R116, R119) -/

theorem State.activeProve_eq_none : s.activeProve = none ↔ ∀ r, (s.prove r).state.isActive = false := by
  simp only [State.activeProve, List.find?_eq_none, Bool.not_eq_true]
  exact ⟨fun h r => h r r.mem_all, fun h r _ => h r⟩

theorem State.endRecord_prove_self (s : State) (r : RunNo) (o : ProveOutcome) (x : Option ProveResult) :
    (s.endRecord r o x).state.prove r = ⟨.none, some ⟨o, s.mgmt.stationTime, (s.prove r).state.recordedSet,
      (s.prove r).state.passCount, (s.prove r).state.result.or x⟩⟩ :=
  State.prove_setProve_self ..

theorem State.endRecord_prove_of_ne {r q : RunNo} (h : q ≠ r) (s : State) (o : ProveOutcome)
    (x : Option ProveResult) : (s.endRecord r o x).state.prove q = s.prove q :=
  State.prove_setProve_of_ne s _ h

/-- The tries of the queue leave the record of a run that does not wait in it. -/
theorem tryQueue_prove_of_not_mem {l : List RunNo} {r : RunNo} (h : r ∉ l) (s : State) :
    (tryQueue l s).state.prove r = s.prove r := by
  induction l generalizing s with
  | nil => rfl
  | cons q rest ih =>
    rw [List.mem_cons, not_or] at h
    unfold tryQueue
    split
    · exact State.prove_setProve_of_ne (s.setProveQueue rest) _ h.1
    · exact (ih h.2 _).trans (State.endRecord_prove_of_ne h.1 ..)

theorem tryQueue_metering {q : RunNo} {rest : List RunNo} {b : BatchEntry} {c : ProverConfig}
    (hrun : (s.run q).state = .metering) (hb : s.activeBatch = some b) (hc : s.prover.config = some c) :
    (tryQueue (q :: rest) s).state.prover.queue = rest ∧
      ((tryQueue (q :: rest) s).state.prove q).state =
        .active b.set b.rho 0 [] (s.now + c.passTimeout * 1000) := by
  unfold tryQueue
  rw [hrun, hb, hc]
  exact ⟨rfl, congrArg ProveRecord.state (State.prove_setProve_self (s.setProveQueue rest) q _)⟩

theorem tryQueue_not_metering {q : RunNo} {rest : List RunNo} (hrun : (s.run q).state ≠ .metering) :
    (tryQueue (q :: rest) s).state = (tryQueue rest (s.endRecord q .notFlowing none).state).state := by
  conv_lhs => unfold tryQueue
  split
  · next h _ _ => exact absurd h hrun
  · rfl

theorem State.tryHead_queue_nil (h : s.prover.queue = []) : s.tryHead.state.prover = s.prover := by
  unfold State.tryHead
  split
  · rfl
  · rw [h]
    show { s.prover with queue := [] } = s.prover
    rw [← h]

/-- An ACTIVE prove ends: its record keeps the outcome, and the prover is handed on. -/
theorem State.endProve_active {r : RunNo} {k : SetNo} {rho count timer : Nat} {window : List PassRecord}
    (hact : (s.prove r).state = .active k rho count window timer)
    (hqueue : s.prover.queue = [] ∨ s.ProverOrdered) (o : ProveOutcome) (x : Option ProveResult) :
    (s.endProve r o x).state.prove r =
        ⟨.none, some ⟨o, s.mgmt.stationTime, some k, some count, x⟩⟩ ∧
      s.HandedOn (s.endProve r o x).state s.now := by
  set v := (s.endRecord r o x).state with hv
  have hend : (s.endProve r o x).state = v.tryHead.state := by
    simp only [State.endProve, hact, ProveState.isActive, if_true, Work.andThen]
    rw [hv]
  have hself : v.prove r = ⟨.none, some ⟨o, s.mgmt.stationTime, some k, some count, x⟩⟩ := by
    rw [hv, State.endRecord_prove_self, hact]
    rfl
  have hvq : v.prover.queue = s.prover.queue.filter fun q => decide (q ≠ r) := rfl
  rw [hend]
  by_cases hnil : s.prover.queue = []
  · have hprover := State.tryHead_queue_nil (s := v) (by rw [hvq, hnil]; rfl)
    refine ⟨(congrArg (fun p => p.records.get r) hprover).trans hself, fun _ => ?_, fun q more _ _ hq => ?_,
      fun q hq => ?_⟩
    · rw [hprover, hvq, hnil]; rfl
    · rw [hnil] at hq; cases hq
    · rw [hnil] at hq; cases hq
  · obtain ⟨-, hqueued, hsingle, -⟩ := hqueue.resolve_left hnil
    have hmem : ∀ q ∈ s.prover.queue, q ≠ r := by
      rintro q hq rfl
      rw [(hqueued q).1 hq] at hact
      cases hact
    have hvq' : v.prover.queue = s.prover.queue :=
      hvq.trans (List.filter_eq_self.2 fun q hq => by simpa using hmem q hq)
    have hfree : v.activeProve = none := State.activeProve_eq_none.2 fun q => by
      by_cases hq : q = r
      · rw [hq, hself]; rfl
      · have hvp : v.prove q = s.prove q := State.endRecord_prove_of_ne hq ..
        rw [hvp]
        refine Bool.eq_false_iff.2 fun hactive => hq (hsingle q r hactive ?_)
        rw [hact]; rfl
    have htry : v.tryHead = tryQueue s.prover.queue v := by simp [State.tryHead, hfree, hvq']
    rw [htry]
    refine ⟨?_, fun h => absurd h hnil, fun q more b c hq hrun hb hc => ?_, fun q hq hrun => ?_⟩
    · rw [tryQueue_prove_of_not_mem (fun h => hmem r h rfl), hself]
    · rw [hq]
      exact tryQueue_metering (s := v) hrun hb hc
    · rw [hq, tryQueue_not_metering (s := v) hrun]
      refine ⟨rfl, ?_⟩
      have hqr : q ≠ r := hmem q (hq ▸ List.mem_singleton_self q)
      have hvp : v.prove q = s.prove q := State.endRecord_prove_of_ne hqr ..
      have hpq : (s.prove q).state = .queued := (hqueued q).1 (hq ▸ List.mem_singleton_self q)
      rw [tryQueue_prove_of_not_mem (List.not_mem_nil), State.endRecord_prove_self, hvp, hpq]
      rfl

/-! ### The close of a run -/

/-- The hand-on seen from a state with the same prover, runs in the queue, station time and batch. -/
theorem State.HandedOn.of_before {now : Nat} (h : u.HandedOn t now) (hp : u.prover = s.prover)
    (hm : u.mgmt = s.mgmt) (hrun : ∀ q ∈ s.prover.queue, u.run q = s.run q)
    (hb : ∀ b, s.activeBatch = some b → ∃ b', u.activeBatch = some b' ∧ b'.set = b.set ∧ b'.rho = b.rho) :
    s.HandedOn t now := by
  obtain ⟨hnobody, hnext, hskipped⟩ := h
  rw [hp] at hnobody hnext hskipped
  refine ⟨hnobody, fun q more b c hq hmeter hbatch hc => ?_, fun q hq hmeter => ?_⟩
  · obtain ⟨b', hb', hset, hrho⟩ := hb b hbatch
    rw [← hset, ← hrho]
    exact hnext q more b' c hq (by rw [hrun q (by simp [hq])]; exact hmeter) hb' hc
  · rw [← hm]
    exact hskipped q hq (by rw [hrun q (by simp [hq])]; exact hmeter)

/-- What a run's close does to the prover: an ACTIVE prove of the run ends and the prover is handed on, and
a prove in another state stays (R133). -/
theorem State.closeRun_prover (s : State) (r : RunNo) :
    (∀ k rho count window timer, (s.prove r).state = .active k rho count window timer →
      s.prover.queue = [] ∨ s.ProverOrdered →
      (s.closeRun r).state.prove r =
          ⟨.none, some ⟨.abortedRunClosed, s.mgmt.stationTime, some k, some count, none⟩⟩ ∧
        s.HandedOn (s.closeRun r).state s.now) ∧
    ((s.prove r).state.isActive = false → (s.closeRun r).state.prover = s.prover) := by
  set c := s.setRun r { s.run r with state := .closed, closePending := false, closeTimer := none } with hc
  set v := c.clearMeteringFlags r with hv
  have hraised : (c.setChain r { c.chainOf r with
      flags := { RunFlags.clear with flowingClosed := (c.chainOf r).flags.flowingClosed } }).Raised v :=
    State.setFlags_raised ..
  have hprover : v.prover = s.prover := hraised.prover
  have hprove : ∀ q, v.prove q = s.prove q := fun q => congrArg (fun p => p.records.get q) hprover
  have hmgmt : v.mgmt = s.mgmt := hraised.mgmt
  have hnow : v.now = s.now := hraised.now
  have hclose : s.closeRun r = if (v.prove r).state.isActive then v.endProve r .abortedRunClosed none
      else v.work := rfl
  refine ⟨fun k rho count window timer hact hqueue => ?_, fun hidle => ?_⟩
  · have hact' : (v.prove r).state = .active k rho count window timer := by rw [hprove]; exact hact
    have hqueue' : v.prover.queue = [] ∨ v.ProverOrdered := by
      refine hqueue.imp (fun h => by rw [hprover]; exact h) fun h => ⟨by rw [hprover]; exact h.once,
        fun q => by rw [hprover, hprove]; exact h.queued q,
        fun q q' => by rw [hprove, hprove]; exact h.single q q',
        fun hne => by
          rw [hprover] at hne
          obtain ⟨q, hq⟩ := h.behind hne
          exact ⟨q, by rw [hprove]; exact hq⟩⟩
    obtain ⟨hself, hhanded⟩ := State.endProve_active hact' hqueue' .abortedRunClosed none
    rw [hclose, if_pos (by rw [hact']; rfl), ← hnow, ← hmgmt]
    refine ⟨hself, hhanded.of_before hprover hmgmt (fun q hq => ?_) fun b hb => ?_⟩
    · have hqr : q ≠ r := by
        rintro rfl
        obtain hnil | hord := hqueue
        · rw [hnil] at hq; cases hq
        · rw [(hord.queued q).1 hq] at hact
          cases hact
      have hruns : v.runs = s.runs.set r _ := hraised.runs
      rw [State.run, hruns, Four.get_set_of_ne _ _ hqr]
      rfl
    · obtain ⟨g, hg, hactive⟩ := hraised.activeBatch
      have hb' : (c.setChain r { c.chainOf r with
        flags := { RunFlags.clear with flowingClosed := (c.chainOf r).flags.flowingClosed } }).activeBatch =
          some b := hb
      rw [hb'] at hactive
      exact ⟨g b, hactive, by rw [hg b], by rw [hg b]⟩
  · rw [hclose, if_neg (by rw [hprove, hidle]; exact Bool.false_ne_true)]
    exact hprover

/-! ### SET_RUN_SERVICE -/

/-- A SET_RUN_SERVICE of a row's own direction is answered by the row's owner (R20; log 17). -/
theorem State.setRunService_of_requests {f : Frame} {d a : Byte} (h : s.Requests 5 f [d, a]) {other : Nat}
    (hne : d.toNat ≠ other) (owner : RunNo → State → Answer) :
    s.setRunService d.toNat other owner = (match Num4.ofNat? a.toNat with
      | some r => owner r s.popHead
      | none => s.popHead.refuse .refusedRange).conclude f := by
  have hh := State.headRequest_of_requests h
  obtain ⟨hheld, -, -, -, hbody, -⟩ := h
  have hkind : f.requestKind = 5 := Frame.requestKind_of_body hbody
  have hparams : f.params = [d, a] := Frame.params_of_body hbody
  have hfit : lengthFits 5 [d, a] = true := by simp [lengthFits, requiredLength, fixedLength]
  simp only [State.setRunService, State.dispatchRequest, State.whenRunning, hheld, hh, hkind, hparams, hfit,
    natAt_zero_cons, natAt_succ_cons, runAt]
  simp [hne]
  rfl

theorem exec_setRunServiceOpen {f : Frame} {a : Byte} (h : s.Requests 5 f [0, a]) {r : RunNo}
    (hr : Num4.ofNat? a.toNat = some r) :
    exec .setRunServiceOpen s = .next ((openRun r s.popHead).conclude f) := by
  have hs := State.setRunService_of_requests h (other := 1) (by decide) openRun
  rw [hr] at hs
  exact congrArg _ hs

theorem exec_setRunServiceClose {f : Frame} {a : Byte} (h : s.Requests 5 f [1, a]) {r : RunNo}
    (hr : Num4.ofNat? a.toNat = some r) :
    exec .setRunServiceClose s = .next ((closeRunRequest r s.popHead).conclude f) := by
  have hs := State.setRunService_of_requests h (other := 0) (by decide) closeRunRequest
  rw [hr] at hs
  exact congrArg _ hs

theorem openRun_ready {r : RunNo} (hclosed : (s.run r).state = .closed) (hconf : (s.run r).configured = true)
    (hpulse : (s.findRole (.pulse r)).isSome = true) :
    openRun r s = ((s.setRun r { s.run r with state := .idle }).setFlags r
      { (s.chainOf r).flags with flowingClosed := false }).answerDone [] := by
  unfold openRun
  dsimp only
  split
  · rw [if_pos (by rw [hconf, hpulse]; rfl)]
    rfl
  all_goals next h => rw [hclosed] at h; cases h

theorem openRun_missing {r : RunNo} (hclosed : (s.run r).state = .closed)
    (h : (s.run r).configured = false ∨ s.findRole (.pulse r) = none) :
    openRun r s = s.refuse .refusedState := by
  have hand : ((s.run r).configured && (s.findRole (.pulse r)).isSome) = false := by
    obtain h | h := h <;> simp [h]
  unfold openRun
  dsimp only
  split
  · rw [hand]; rfl
  all_goals next h => rw [hclosed] at h; cases h

theorem openRun_open {r : RunNo} (hopen : (s.run r).state ≠ .closed) :
    openRun r s = (s.setRun r { s.run r with closePending := false, closeTimer := none }).answerDone [] := by
  unfold openRun
  dsimp only
  split
  · next hc => exact absurd hc hopen
  · rfl
  · rfl

theorem closeRunRequest_closed {r : RunNo} (h : (s.run r).state = .closed) :
    closeRunRequest r s = s.answerDone [] := by simp only [closeRunRequest, h]

theorem closeRunRequest_idle {r : RunNo} (h : (s.run r).state = .idle)
    (hp : (s.run r).closePending = false) : closeRunRequest r s = (s.closeRun r).done [] := by
  simp only [closeRunRequest, h, hp]

theorem closeRunRequest_metering {r : RunNo} (h : (s.run r).state = .metering)
    (hp : (s.run r).closePending = false) : closeRunRequest r s =
      (s.setRun r { s.run r with closePending := true, closeTimer := some (s.now + 10000) }).work.pendingAnswer
        [] := by
  unfold closeRunRequest
  dsimp only
  split
  · next hc => rw [h] at hc; cases hc
  · next hc _ => rw [h] at hc; cases hc
  · next _ hc => rw [hp] at hc; cases hc
  · next hc _ => rw [h] at hc; cases hc
  · rfl

theorem closeRunRequest_pending {r : RunNo} (h : (s.run r).state ≠ .closed)
    (hp : (s.run r).closePending = true) : closeRunRequest r s = s.work.pendingAnswer [] := by
  cases hst : (s.run r).state with
  | closed => exact absurd hst h
  | idle => simp only [closeRunRequest, hst, hp]
  | metering => simp only [closeRunRequest, hst, hp]

/-- A run's close with the end of its event: the run, its flags, what stays, and the prover. -/
theorem State.closeRun_finish (s : State) (r : RunNo) :
    (s.closeRun r).finish.now = s.now ∧
      (s.closeRun r).finish.runs =
        s.runs.set r { s.run r with state := .closed, closePending := false, closeTimer := none } ∧
      (s.closeRun r).finish.chain = s.chain.set r { s.chainOf r with
        flags := { RunFlags.clear with flowingClosed := (s.chainOf r).flags.flowingClosed } } ∧
      (s.closeRun r).finish.totals = s.totals ∧ (s.closeRun r).finish.points = s.points ∧
      (s.closeRun r).finish.tickets = s.tickets ∧ (s.closeRun r).finish.responses = s.responses ∧
      (s.closeRun r).finish.prover = (s.closeRun r).state.prover := by
  have hn := (s.closeRun r).finish_noted
  obtain ⟨hruns, hchain, heq⟩ := s.closeRun_effect r
  exact ⟨hn.now.trans (congrArg State.now heq :), hn.runs.trans hruns, hn.chain.trans hchain,
    hn.totals.trans (congrArg State.totals heq :), hn.points.trans (congrArg State.points heq :),
    hn.tickets.trans (congrArg State.tickets heq :), hn.responses.trans (congrArg State.responses heq :),
    hn.prover⟩

/-- `closeRun_prover` for a state whose Prover Unit is the one that the close leaves. -/
theorem State.closeRun_prover_of_eq {r : RunNo} (ht : t.prover = (s.closeRun r).state.prover) :
    (∀ k rho count window timer, (s.prove r).state = .active k rho count window timer →
      s.prover.queue = [] ∨ s.ProverOrdered →
      t.prove r = ⟨.none, some ⟨.abortedRunClosed, s.mgmt.stationTime, some k, some count, none⟩⟩ ∧
        s.HandedOn t s.now) ∧
    ((s.prove r).state.isActive = false → t.prover = s.prover) := by
  obtain ⟨hactive, hidle⟩ := s.closeRun_prover r
  have hprove : ∀ q, t.prove q = (s.closeRun r).state.prove q := fun q => congrArg (fun p => p.records.get q) ht
  refine ⟨fun k rho count window timer hact hqueue => ?_, fun h => ht.trans (hidle h)⟩
  obtain ⟨hself, hnobody, hnext, hskipped⟩ := hactive k rho count window timer hact hqueue
  rw [← ht] at hnobody hnext hskipped
  simp only [← hprove] at hself hnext hskipped
  exact ⟨hself, hnobody, hnext, hskipped⟩

/-- Settles O28: the two owners by the state of the run, and the close through its effects. -/
theorem setRunService : Obligations.SetRunService := by
  refine ⟨fun s f a r hr => ⟨fun h hclosed hconf hpulse => ?_, fun h hclosed hmissing => ?_,
    fun h hopen => ?_, fun h hclosed => ?_, fun h hmeter hpend => ?_, fun h hopen hpend => ?_⟩,
    fun s f a hr => ⟨fun h => ?_, fun h => ?_⟩, fun s r expiry hheld htimer => ?_,
    fun s f a r h hr hidle hpend => ?_⟩
  · rw [exec_setRunServiceOpen h hr, openRun_ready (s := s.popHead) hclosed hconf hpulse]
    rfl
  · rw [exec_setRunServiceOpen h hr, openRun_missing (s := s.popHead) hclosed hmissing]
    rfl
  · rw [exec_setRunServiceOpen h hr, openRun_open (s := s.popHead) hopen]
    rfl
  · rw [exec_setRunServiceClose h hr, closeRunRequest_closed (s := s.popHead) hclosed]
    rfl
  · rw [exec_setRunServiceClose h hr, closeRunRequest_metering (s := s.popHead) hmeter hpend]
    rfl
  · rw [exec_setRunServiceClose h hr, closeRunRequest_pending (s := s.popHead) hopen hpend]
    rfl
  · have hs := State.setRunService_of_requests h (other := 1) (by decide) openRun
    rw [hr] at hs
    exact congrArg _ hs
  · have hs := State.setRunService_of_requests h (other := 0) (by decide) closeRunRequest
    rw [hr] at hs
    exact congrArg _ hs
  · obtain ⟨hnow, hruns, hchain, htotals, hpoints, htickets, -, hprover⟩ :=
      (s.passTo expiry).closeRun_finish r
    refine ⟨_, ?_, hnow, hruns, hchain, htotals, hpoints, htickets, ?_⟩
    · simp only [exec, execCloseTimerExpiry, State.whenRunning, hheld, htimer, Bool.false_eq_true, if_false]
    · obtain ⟨hactive, hstays⟩ := State.closeRun_prover_of_eq hprover
      refine ⟨fun k rho count window timer hact hqueue => ?_, hstays⟩
      obtain ⟨hself, hnobody, hnext, hskipped⟩ := hactive k rho count window timer hact
        (hqueue.imp id fun h => ⟨h.once, h.queued, h.single, h.behind⟩)
      exact ⟨hself, hnobody, hnext, hskipped⟩
  · obtain ⟨hnow, hruns, hchain, htotals, hpoints, htickets, hresponses, hprover⟩ :=
      s.popHead.closeRun_finish r
    refine ⟨(s.popHead.closeRun r).finish.queueResponse f .done [],
      by rw [exec_setRunServiceClose h hr, closeRunRequest_idle (s := s.popHead) hidle hpend]; rfl, hruns, hchain, htotals,
      hpoints, htickets, ?_, ?_⟩
    · obtain ⟨hactive, hstays⟩ := State.closeRun_prover_of_eq
        (t := (s.popHead.closeRun r).finish.queueResponse f .done []) hprover
      refine ⟨fun k rho count window timer hact hqueue => ?_, hstays⟩
      obtain ⟨hself, hnobody, hnext, hskipped⟩ := hactive k rho count window timer hact
        (hqueue.imp id fun h => ⟨h.once, h.queued, h.single, h.behind⟩)
      exact ⟨hself, hnobody, hnext, hskipped⟩
    · rw [State.queueResponse_responses, hresponses]
      rfl

end Sys2Proof.Machine
end

section
/-!
What an accepted sample frame finds in use, and PASS_FRAME: the stray pass and the invalid pass (R16, R120,
R122 to R126, R145).
-/

namespace Sys2Proof.Machine

variable {s t u : State}

/-! ### What an accepted frame finds in use -/

theorem State.inUse_congr {role : Role} (h : t.findRole role = s.findRole role) (sub : Int) :
    t.inUse role sub = s.inUse role sub := by
  rw [State.inUse, State.inUse, h]

theorem State.Raised.setSlot (h : s.Raised t) (slot : Nat) (x : Option MapEntry) :
    (s.setSlot slot x).Raised (t.setSlot slot x) := by
  refine ⟨?_, h.levels, h.notices, h.entries, h.schedule⟩
  conv_lhs => rw [h.eq]
  rfl

theorem State.setSlot_setSlot (s : State) (slot : Nat) (x y : Option MapEntry) :
    (s.setSlot slot x).setSlot slot y = s.setSlot slot y := by simp [State.setSlot]

/-- The state after the acceptance of a sample frame, with the record that its point then takes (R5, R6). -/
def State.sampled (s : State) (slot : Nat) (e : MapEntry) (f : Frame) (rec : LiveRecord) : State :=
  (s.popHead.accept slot e f (classify e.record.last f.seqEpoch)).setSlot slot (some { e with record := rec })

/-- But for the record that the point takes, an accepted frame makes raises and returns. -/
theorem State.sampled_raised (s : State) (slot : Nat) (e : MapEntry) (f : Frame) (rec : LiveRecord) :
    (s.popHead.setSlot slot (some { e with record := rec })).Raised (s.sampled slot e f rec) := by
  have h := (s.popHead.accept_raised slot e f (classify e.record.last f.seqEpoch)).setSlot slot
    (some { e with record := rec })
  rwa [State.setSlot_setSlot] at h

theorem State.slotEntry_sampled {slot : Nat} {e : MapEntry} (h : s.slotEntry slot = some e) (f : Frame)
    (rec : LiveRecord) : (s.sampled slot e f rec).slotEntry slot = some { e with record := rec } :=
  State.slotEntry_setSlot_self (State.slotEntry_accept_self (s := s.popHead) h ..) _

theorem State.findRole_sampled {slot : Nat} {e : MapEntry} (h : s.slotEntry slot = some e) {role : Role}
    (hne : e.role ≠ role) (f : Frame) (rec : LiveRecord) :
    (s.sampled slot e f rec).findRole role = s.findRole role := by
  rw [State.findRole_congr (congrArg _ (s.sampled_raised slot e f rec).points)]
  exact State.findRole_setSlot_of_ne (s := s.popHead) (e' := { e with record := rec }) h rfl hne

theorem State.entry_sampled {slot n : Nat} (hslot : slot ≤ 15) (hn : 31 ≤ n) (e : MapEntry) (f : Frame)
    (rec : LiveRecord) : (s.sampled slot e f rec).entry n = s.entry n :=
  State.entry_accept_of_ne (s := s.popHead) hslot hn ..

theorem Role.eq_prover_of_takes {role : Role} (h : role.takes kindPass = true) : role = .prover := by
  cases role with
  | prover => rfl
  | _ => exact absurd h (by simp [Role.takes])

/-! ### PASS_FRAME -/

theorem exec_passFrame_of_samples {f : Frame} {slot : Nat} {e : MapEntry} (h : s.Samples kindPass f slot e)
    (hc : classify e.record.last f.seqEpoch ≠ .discarded) :
    exec .passFrame s = .next (usePass f slot
      { e with record := { e.record with last := some f.seqEpoch } } (classify e.record.last f.seqEpoch)
      (s.popHead.accept slot e f (classify e.record.last f.seqEpoch))).finish :=
  congrArg _ (State.dispatchSample_of_samples h hc usePass)

/-- A PASS frame records its pass number and is handed on (R16). -/
theorem usePass_eq (s : State) (slot : Nat) (e : MapEntry) (f : Frame) : ∃ previous,
    usePass f slot { e with record := { e.record with last := some f.seqEpoch } }
      (classify e.record.last f.seqEpoch) (s.popHead.accept slot e f (classify e.record.last f.seqEpoch)) =
    (s.sampled slot e f { e.record with
      last := some f.seqEpoch, quality := .good,
      lastPass := some (natAt 3 1 f.payload) }).handPass previous f.pass := ⟨_, rfl⟩

theorem within_eq_true {low high v : Nat} : within low high v = true ↔ low ≤ v ∧ v ≤ high := decide_eq_true_iff

theorem withinInt_eq_true {low high v : Int} : withinInt low high v = true ↔ low ≤ v ∧ v ≤ high :=
  decide_eq_true_iff

theorem saturate_succ (top n : Nat) : saturate top (n + 1) = if n < top then n + 1 else top := by
  unfold saturate
  split <;> split <;> omega

/-- The reasons for which a pass is invalid (R122 to R124). -/
theorem State.passRecord_eq_none {r : RunNo} {k : SetNo} {rho : Nat} {c : ProverConfig} {f : Frame}
    {gsvm mf : Nat}
    (hgsvm : gsvm = meterVolume ((s.run r).config.kmilli.getD 0) f.pass.np
      (gridLookup (s.tableSet k) (s.tempInUse r).value rho) (s.presInUse r).value.toNat)
    (hmf : mf = roundNat (proverVolume c f.pass (gridLookup (s.tableSet k) f.pass.tp rho) * 1000000) gsvm)
    (h : natAt 16 1 f.payload ≠ 0 ∨ natAt 4 4 f.payload = 0 ∨ intAt 8 4 f.payload < -5000 ∨
      15000 < intAt 8 4 f.payload ∨ 200000 < natAt 12 4 f.payload ∨ gsvm = 0 ∨ mf < 800000 ∨ 1200000 < mf) :
    s.passRecord r k rho c f.pass = none := by
  have hplausible : f.pass.plausible = true → natAt 16 1 f.payload = 0 ∧ natAt 4 4 f.payload ≠ 0 ∧
      -5000 ≤ intAt 8 4 f.payload ∧ intAt 8 4 f.payload ≤ 15000 ∧ natAt 12 4 f.payload ≤ 200000 := by
    simp only [Pass.plausible, Frame.pass, withinInt_eq_true, within_eq_true, Bool.and_eq_true, beq_iff_eq,
      bne_iff_ne]
    rintro ⟨⟨⟨h1, h2⟩, h3, h4⟩, -, h5⟩
    exact ⟨h1, h2, h3, h4, h5⟩
  unfold State.passRecord
  split
  · rfl
  · next hp =>
    obtain ⟨h1, h2, h3, h4, h5⟩ := hplausible (by simpa using hp)
    dsimp only
    rw [← hgsvm, ← hmf, if_pos]
    have : gsvm = 0 ∨ mf < 800000 ∨ 1200000 < mf := by
      obtain h | h | h | h | h | h := h
      · exact absurd h1 h
      · exact absurd h h2
      · omega
      · omega
      · omega
      · exact h
    refine this.imp id fun h => ?_
    rw [Bool.not_eq_true', ← Bool.not_eq_true, within_eq_true]
    omega

/-- An invalid pass counts, restarts the pass timer and empties the window; at the maximum the prove ends
(R122, R126). -/
theorem State.takePass_invalid {r : RunNo} {k : SetNo} {rho count timer : Nat} {window : List PassRecord}
    {c : ProverConfig} {p : Pass} (hact : (s.prove r).state = .active k rho count window timer)
    (hrec : s.passRecord r k rho c p = none) (hn : 1 ≤ c.passes) (previous : Option Nat) :
    s.takePass r c previous p =
      if c.maxPasses ≤ count + 1 then
        (s.setProve r { s.prove r with
          state := .active k rho (count + 1) [] (s.now + c.passTimeout * 1000) }).endProve r
            .failedRepeatability none
      else (s.setProve r { s.prove r with
        state := .active k rho (count + 1) [] (s.now + c.passTimeout * 1000) }).work := by
  have hwindow : nextWindow c.passes (count + 1) previous p none window = [] := rfl
  have hopen : windowComplete c [] = false := by
    simp [windowComplete, show 0 ≠ c.passes by omega]
  simp only [State.takePass, hact, hrec, hwindow, hopen, Bool.false_eq_true, if_false]
  rfl

/-- Settles O48: the stray pass is an occurrence, and an invalid pass leaves an empty window. -/
theorem passFrameStrayAndInvalid : Obligations.PassFrameStrayAndInvalid := by
  intro s f slot e hs hclass
  obtain ⟨hslot, htakes⟩ := State.sampleEntry_eq_some hs.2.2.2.2.2
  have hrole : e.role = .prover := Role.eq_prover_of_takes (hs.2.2.2.1 ▸ htakes)
  obtain ⟨previous, huse⟩ := usePass_eq s slot e f
  have hexec := exec_passFrame_of_samples hs hclass
  rw [huse] at hexec
  set rec : LiveRecord := { e.record with
    last := some f.seqEpoch, quality := .good, lastPass := some (natAt 3 1 f.payload) }
  have hsampled := s.sampled_raised slot e f rec
  set u := s.sampled slot e f rec with hu
  have hruns : u.runs = s.runs := hsampled.runs
  have htables : u.tables = s.tables := hsampled.tables
  have hmgmt : u.mgmt = s.mgmt := hsampled.mgmt
  have hprover : u.prover = s.prover := hsampled.prover
  have hprove : ∀ q, u.prove q = s.prove q := fun q => congrArg (fun p => p.records.get q) hprover
  have hactive : u.activeProve = s.activeProve := by simp only [State.activeProve, hprove]
  refine ⟨fun hnone => ?_, fun r c k rho count window expiry hsome hc hn hact => ?_⟩
  · have hhand : u.handPass previous f.pass = (u.occur .strayPass 1).work := by
      simp only [State.handPass, hactive, hnone]
    rw [hhand, Work.finish_work] at hexec
    have hocc := u.occur_raised .strayPass 1
    have hentry : s.TablesWhole → u.entry 121 = s.entry 121 := fun hw =>
      State.entry_sampled (hw.slots ▸ State.slotEntry_bounds hslot).2 (by decide) ..
    refine ⟨_, hexec, hocc.prover.trans hprover, hocc.shifts.trans hsampled.shifts,
      hocc.totals.trans hsampled.totals, hocc.chain.trans hsampled.chain, fun hw hcomm => ?_, fun hw huncomm => ?_, ?_⟩
    · have heff : u.raiseTakesEffect .strayPass = true := by
        simp [State.raiseTakesEffect, State.uncommissioned, hmgmt, hcomm, CondKind.cls]
      have hlen : u.cond.entries.length = 121 := hsampled.entries.trans hw.entries
      obtain ⟨hstate, hcount⟩ := State.entry_occur_self heff (i := 1) (by rw [hlen]; decide)
      exact ⟨hstate, by rw [← saturate_succ, ← hentry hw]; exact hcount⟩
    · have heff : u.raiseTakesEffect .strayPass = false := by
        simp [State.raiseTakesEffect, State.uncommissioned, hmgmt, huncomm, CondKind.cls]
      rw [State.occur, if_neg (by rw [heff]; exact Bool.false_ne_true)]
      exact hentry hw
    · rw [State.slotEntry_congr (congrArg _ hocc.points)]
      exact State.slotEntry_sampled hslot f rec
  · intro pass atMeter gsvm gsvp hinvalid
    have hact' : (u.prove r).state = .active k rho count window expiry := by rw [hprove]; exact hact
    have htemp : u.tempInUse r = s.tempInUse r := by
      rw [State.tempInUse, State.run, hruns]
      exact State.inUse_congr (State.findRole_sampled hslot (by simp [hrole]) f rec) _
    have hpres : u.presInUse r = s.presInUse r := by
      rw [State.presInUse, State.run, hruns]
      exact State.inUse_congr (State.findRole_sampled hslot (by simp [hrole]) f rec) _
    have hrec : u.passRecord r k rho c f.pass = none := by
      refine State.passRecord_eq_none (gsvm := gsvm) ?_ ?_ hinvalid
      · rw [State.run, hruns, State.tableSet, htables, htemp, hpres]; rfl
      · rw [State.tableSet, htables]; rfl
    have hhand : u.handPass previous f.pass = u.takePass r c previous f.pass := by
      simp only [State.handPass, hactive, hsome, hprover, hc]
    rw [hhand, State.takePass_invalid hact' hrec hn] at hexec
    set v := u.setProve r { u.prove r with
      state := .active k rho (count + 1) [] (u.now + c.passTimeout * 1000) } with hv
    have hself : v.prove r = ⟨.active k rho (count + 1) [] (s.now + c.passTimeout * 1000),
        (s.prove r).lastOutcome⟩ := by
      rw [hv, State.prove_setProve_self, hprove, hsampled.now]
      rfl
    refine ⟨fun hmore => ?_, fun hlast hqueue => ?_⟩
    · rw [if_neg (by omega), Work.finish_work] at hexec
      exact ⟨v, hexec, hself, fun q hq => (State.prove_setProve_of_ne u _ hq).trans (hprove q),
        hsampled.shifts, hsampled.totals, hsampled.chain⟩
    · rw [if_pos hlast] at hexec
      have hend := State.endProve_active (s := v) (congrArg ProveRecord.state hself)
        (.inl (show u.prover.queue = [] by rw [hprover]; exact hqueue)) .failedRepeatability none
      have hnoted := (v.endProve r .failedRepeatability none).finish_noted
      refine ⟨_, hexec, ?_, ?_⟩
      · refine (congrArg (fun p => p.records.get r) hnoted.prover).trans ?_
        rw [← hmgmt]
        exact hend.1
      · exact hnoted.shifts.trans ((State.endProve_proved v r _ none).shifts.trans hsampled.shifts)

end Sys2Proof.Machine
end

section
/-!
PULSE_FRAME that is not booked: the baseline, the frame without elapsed time, the frame of a run that is not
in service and the frame below the cutoff (R6, R8, R50, R52, R53).
-/

namespace Sys2Proof.Machine

variable {s t u : State}

/-! ### The use of a PULSE frame -/

theorem exec_pulseFrame_of_samples {f : Frame} {slot : Nat} {e : MapEntry} (h : s.Samples kindPulse f slot e)
    (hc : classify e.record.last f.seqEpoch ≠ .discarded) :
    exec .pulseFrame s = .next (usePulse f slot
      { e with record := { e.record with last := some f.seqEpoch } } (classify e.record.last f.seqEpoch)
      (s.popHead.accept slot e f (classify e.record.last f.seqEpoch))).finish :=
  congrArg _ (State.dispatchSample_of_samples h hc usePulse)

/-- The PULSE record that an accepted frame with new baselines leaves (R6, R8). -/
def LiveRecord.pulsed (rec : LiveRecord) (f : Frame) : LiveRecord :=
  { rec with last := some f.seqEpoch, quality := .good, base := some f.counts }

theorem usePulse_baseline {e : MapEntry} {r : RunNo} {c : Acceptance} (hrole : e.role = .pulse r)
    (hc : c.baseline = true) (f : Frame) (slot : Nat) :
    usePulse f slot e c s = (s.takeBaselines slot e f.counts).endOfFrame r := by
  simp only [usePulse, hrole, hc, if_true]

theorem usePulse_based {e : MapEntry} {r : RunNo} {c : Acceptance} {base : Counts} (hrole : e.role = .pulse r)
    (hc : c.baseline = false) (hbase : e.record.base = some base) (f : Frame) (slot : Nat) :
    usePulse f slot e c s = if (f.counts.since base).elapsed = 0
      then (s.occur .frameImplausible slot).endOfFrame r
      else (s.takeBaselines slot e f.counts).plausibleFrame r (f.counts.since base) := by
  simp only [usePulse, hrole, hc, hbase, Option.getD_some, Bool.false_eq_true, if_false]

/-- A baseline frame sets the baselines and ends (R6). -/
theorem exec_pulseFrame_baseline {f : Frame} {slot : Nat} {e : MapEntry} {r : RunNo}
    (h : s.Samples kindPulse f slot e) (hrole : e.role = .pulse r)
    (hc : classify e.record.last f.seqEpoch = .first ∨ classify e.record.last f.seqEpoch = .restart) :
    exec .pulseFrame s = .next ((s.sampled slot e f (e.record.pulsed f)).endOfFrame r).finish := by
  have hbase : (classify e.record.last f.seqEpoch).baseline = true := by
    obtain hc | hc := hc <;> rw [hc] <;> rfl
  rw [exec_pulseFrame_of_samples h (by obtain hc | hc := hc <;> simp [hc])]
  exact congrArg (fun w : Work => Host.Outcome.next w.finish) (usePulse_baseline
    (e := { e with record := { e.record with last := some f.seqEpoch } }) hrole hbase f slot)

/-- A frame after the baselines is implausible where its elapsed time did not move, and goes to the rate stage
otherwise (R8, R50). -/
theorem exec_pulseFrame_based {f : Frame} {slot : Nat} {e : MapEntry} {r : RunNo} {base : Counts}
    (h : s.Samples kindPulse f slot e) (hrole : e.role = .pulse r)
    (hc : classify e.record.last f.seqEpoch = .next ∨ classify e.record.last f.seqEpoch = .gap)
    (hbase : e.record.base = some base) :
    exec .pulseFrame s = .next (if (f.counts.since base).elapsed = 0
      then ((s.popHead.accept slot e f (classify e.record.last f.seqEpoch)).occur
        .frameImplausible slot).endOfFrame r
      else (s.sampled slot e f (e.record.pulsed f)).plausibleFrame r (f.counts.since base)).finish := by
  have hnot : (classify e.record.last f.seqEpoch).baseline = false := by
    obtain hc | hc := hc <;> rw [hc] <;> rfl
  rw [exec_pulseFrame_of_samples h (by obtain hc | hc := hc <;> simp [hc])]
  exact congrArg (fun w : Work => Host.Outcome.next w.finish) (usePulse_based
    (e := { e with record := { e.record with last := some f.seqEpoch } }) hrole hnot hbase f slot)

/-- Without a pending close nothing follows at the end of a run's frame (R22). -/
theorem State.endOfFrame_of_not_pending {r : RunNo} (h : (s.run r).closePending = false) :
    s.endOfFrame r = s.work := by simp [State.endOfFrame, h]

/-! ### The frames that are not booked -/

/-- An unbooked frame adds its pulses to its run's counter and moves flowing-while-closed alone (R52). -/
theorem State.unbookedFrame_effect (s : State) (r : RunNo) (d : Counts) :
    (s.unbookedFrame r d).runs =
      s.runs.set r { s.run r with unbooked := addPulses (s.run r).unbooked d.a } ∧
    (s.unbookedFrame r d).totals = s.totals ∧
    (s.unbookedFrame r d).chain = s.chain.set r { s.chainOf r with flags :=
      if (s.run r).state = .closed ∧ s.mgmt.device ≠ .uncommissioned
      then { (s.chainOf r).flags with flowingClosed := decide (0 < d.a) } else (s.chainOf r).flags } := by
  have hiff : ((s.run r).state == .closed && !s.uncommissioned) = true ↔
      (s.run r).state = .closed ∧ s.mgmt.device ≠ .uncommissioned := by simp [State.uncommissioned]
  unfold State.unbookedFrame
  dsimp only
  split
  · next h =>
    have hflags := State.setFlags_raised (s.setRun r { s.run r with
      unbooked := addPulses (s.run r).unbooked d.a }) r
        { (s.chainOf r).flags with flowingClosed := decide (0 < d.a) }
    rw [if_pos (hiff.1 h)]
    exact ⟨hflags.runs, hflags.totals, hflags.chain⟩
  · next h =>
    rw [if_neg (mt hiff.2 h)]
    exact ⟨rfl, rfl, (Four.set_get ..).symm⟩

/-- A frame below the cutoff adds its pulses to its run's counter, makes the run IDLE and clears the metering
flags (R53). -/
theorem State.cutoffFrame_effect (s : State) (r : RunNo) (d : Counts) :
    (s.cutoffFrame r d).runs = s.runs.set r { s.run r with
      cutoffPulses := addPulses (s.run r).cutoffPulses d.a, state := .idle } ∧
    (s.cutoffFrame r d).totals = s.totals ∧
    (s.cutoffFrame r d).chain = s.chain.set r { s.chainOf r with
      flags := { RunFlags.clear with flowingClosed := (s.chainOf r).flags.flowingClosed } } := by
  have h := State.setFlags_raised (s.setRun r { s.run r with
    cutoffPulses := addPulses (s.run r).cutoffPulses d.a, state := .idle }) r
      { RunFlags.clear with flowingClosed := (s.chainOf r).flags.flowingClosed }
  exact ⟨h.runs, h.totals, h.chain⟩

/-- The frame of a CLOSED run, or of a run with no batch active, is unbooked; a configured run's rate is formed
all the same (R51, R52). -/
theorem State.plausibleFrame_unbooked {r : RunNo} (h : (s.run r).state = .closed ∨ s.activeBatch = none)
    (d : Counts) : ∃ (rate : Option Nat) (u : State),
      ((s.setChain r { s.chainOf r with lastRate := rate }).unbookedFrame r d).Triggered u ∧
      s.plausibleFrame r d = u.endOfFrame r := by
  unfold State.plausibleFrame
  split
  · have hset : s.setChain r { s.chainOf r with lastRate := (s.chainOf r).lastRate } = s :=
      congrArg (fun c => { s with chain := c }) (Four.set_get s.chain r)
    exact ⟨(s.chainOf r).lastRate, _, .refl _, by rw [hset]; rfl⟩
  · next k _ =>
    set v := s.setChain r { s.chainOf r with lastRate := some (formRate k d).q } with hv
    have hdecide : v.decideFrame r d k (formRate k d) = (v.unbookedFrame r d).work := by
      unfold State.decideFrame
      dsimp only
      split
      · rfl
      · next hopen =>
        have hnone : v.activeBatch = none := h.resolve_left hopen
        rw [hnone]
    refine ⟨some (formRate k d).q, _, State.reportHandOff_triggered _ r, ?_⟩
    dsimp only
    rw [hdecide]
    rfl

/-- The frame of an open run below its cutoff (R51, R53). -/
theorem State.plausibleFrame_cutoff {r : RunNo} {b : BatchEntry} {k : Nat} {d : Counts}
    (hopen : (s.run r).state ≠ .closed) (hb : s.activeBatch = some b)
    (hk : (s.run r).config.kmilli = some k) (hlow : (formRate k d).q < (s.run r).config.cutoff) :
    s.plausibleFrame r d = (((s.setChain r { s.chainOf r with
      lastRate := some (formRate k d).q }).cutoffFrame r d).reportHandOff r).endOfFrame r := by
  have hdecide : (s.setChain r { s.chainOf r with lastRate := some (formRate k d).q }).decideFrame r d k
      (formRate k d) = ((s.setChain r { s.chainOf r with
        lastRate := some (formRate k d).q }).cutoffFrame r d).work := by
    unfold State.decideFrame
    dsimp only
    rw [if_neg (show ¬ ((s.setChain r _).run r).state = .closed from hopen),
      show (s.setChain r _).activeBatch = some b from hb]
    exact if_pos hlow
  simp only [State.plausibleFrame, hk]
  rw [hdecide]
  rfl

/-- Settles O32: each of the four forms goes through the effect of its frame. -/
theorem pulseFrameIsNotBooked : Obligations.PulseFrameIsNotBooked := by
  intro s f slot e r hs hrole hpending
  obtain ⟨hslot, -⟩ := State.sampleEntry_eq_some hs.2.2.2.2.2
  have hsampled := s.sampled_raised slot e f (e.record.pulsed f)
  have hself := State.slotEntry_sampled hslot f (e.record.pulsed f)
  set v := s.sampled slot e f (e.record.pulsed f)
  have hruns : v.runs = s.runs := hsampled.runs
  have hchain : v.chain = s.chain := hsampled.chain
  have hrun : v.run r = s.run r := congrArg (Four.get · r) hruns
  have hchainOf : v.chainOf r = s.chainOf r := congrArg (Four.get · r) hchain
  have hmgmt : v.mgmt = s.mgmt := hsampled.mgmt
  have hdone : ∀ w : State, (w.run r).closePending = (s.run r).closePending → (w.endOfFrame r).finish = w :=
    fun w hw => by rw [State.endOfFrame_of_not_pending (hw.trans hpending), Work.finish_work]
  refine ⟨fun hc => ?_, fun base hc hbase => ⟨fun hstill => ?_, fun hmoved hstate => ?_,
    fun k b hmoved hopen hb hk hlow => ?_⟩⟩
  · have hexec := exec_pulseFrame_baseline hs hrole hc
    rw [hdone v (by rw [hrun])] at hexec
    exact ⟨v, hexec, hsampled.totals, hchain, hruns, hself⟩
  · have hexec := exec_pulseFrame_based hs hrole hc hbase
    rw [if_pos hstill] at hexec
    have hraised := (s.popHead.accept_raised slot e f (classify e.record.last f.seqEpoch)).trans
      (State.occur_raised _ .frameImplausible slot)
    rw [hdone _ (by rw [State.run, hraised.runs]; rfl)] at hexec
    refine ⟨_, hexec, hraised.totals, hraised.chain, hraised.runs, ?_⟩
    rw [State.slotEntry_congr (congrArg _ hraised.points)]
    exact State.slotEntry_setSlot_self (s := s.popHead) hslot _
  · have hexec := exec_pulseFrame_based hs hrole hc hbase
    obtain ⟨g, -, hactive⟩ := hsampled.activeBatch
    have hactive' : v.activeBatch = s.activeBatch.map g := hactive
    have hstate' : (v.run r).state = .closed ∨ v.activeBatch = none :=
      hstate.imp (fun h => by rw [hrun]; exact h) fun h => by rw [hactive', h]; rfl
    obtain ⟨rate, t, htrig, hplausible⟩ := State.plausibleFrame_unbooked hstate' (f.counts.since base)
    obtain ⟨huruns, hutotals, huchain⟩ := State.unbookedFrame_effect
      (v.setChain r { v.chainOf r with lastRate := rate }) r (f.counts.since base)
    have htruns : t.runs = s.runs.set r { s.run r with
        unbooked := ((s.run r).unbooked + (f.counts.since base).a) % 4294967296 } := by
      rw [htrig.runs, huruns, State.setChain_runs, hruns]
      exact congrArg (fun x : RunUnit => s.runs.set r { x with unbooked := addPulses x.unbooked _ }) hrun
    have htchain : ∃ flags, t.chainOf r = { s.chainOf r with lastRate := rate, flags := flags } ∧
        ((s.run r).state = .closed → s.mgmt.device ≠ .uncommissioned →
          flags = { (s.chainOf r).flags with flowingClosed := decide (0 < (f.counts.since base).a) }) := by
      rw [State.chainOf, htrig.chain, huchain, Four.get_set_self, State.chainOf_setChain_self, hchainOf]
      refine ⟨_, rfl, fun h1 h2 => if_pos ⟨?_, ?_⟩⟩
      · exact (congrArg RunUnit.state hrun).trans h1
      · exact fun h => h2 ((congrArg (·.device) hmgmt).symm.trans h)
    obtain ⟨flags, hflags, hclosed⟩ := htchain
    rw [if_neg (by omega), hplausible, hdone t (by rw [State.run, htruns, Four.get_set_self])] at hexec
    exact ⟨t, hexec, htrig.totals.trans (hutotals.trans hsampled.totals), htruns,
      (congrArg ChainRecord.ivRes hflags :), (congrArg ChainRecord.gsvRes hflags :),
      (congrArg ChainRecord.nsvRes hflags :),
      (congrArg ChainRecord.massRes hflags :), fun h1 h2 =>
        (congrArg ChainRecord.flags hflags :).trans (hclosed h1 h2)⟩
  · have hexec := exec_pulseFrame_based hs hrole hc hbase
    obtain ⟨g, -, hactive⟩ := hsampled.activeBatch
    have hactive' : v.activeBatch = some (g b) := hactive.trans (congrArg (Option.map g) hb)
    rw [if_neg (by omega), State.plausibleFrame_cutoff (by rw [hrun]; exact hopen) hactive'
      (by rw [hrun]; exact hk) (by rw [hrun]; exact hlow)] at hexec
    obtain ⟨hcruns, hctotals, hcchain⟩ := State.cutoffFrame_effect
      (v.setChain r { v.chainOf r with lastRate := some (formRate k (f.counts.since base)).q }) r
      (f.counts.since base)
    have htrig := State.reportHandOff_triggered ((v.setChain r { v.chainOf r with
      lastRate := some (formRate k (f.counts.since base)).q }).cutoffFrame r (f.counts.since base)) r
    have htruns := htrig.runs.trans hcruns
    rw [hdone _ (by
      rw [State.run, htruns, Four.get_set_self]
      exact (congrArg RunUnit.closePending hrun :))] at hexec
    refine ⟨_, hexec, htrig.totals.trans (hctotals.trans hsampled.totals), htruns.trans ?_,
      htrig.chain.trans (hcchain.trans ?_)⟩
    · rw [State.setChain_runs, hruns]
      exact congrArg (fun x : RunUnit => s.runs.set r { x with
        cutoffPulses := addPulses x.cutoffPulses _, state := .idle }) hrun
    · rw [State.chainOf_setChain_self, State.setChain_chain, Four.set_set, hchain, hchainOf]

end Sys2Proof.Machine
end

section
/-!
The close of a batch at its target: what the opening of the successor, the completion and the wait leave, and
what they are (R80, R81, R88 to R92).
-/

namespace Sys2Proof.Machine

variable {s t u : State}

/-! ### What a close other than a decommission may change -/

/-- The close of a batch and the opening of its successor, short of a decommission: `State.Closed` with the
tickets, the flags and the device state kept. -/
structure State.Rebatched (s t : State) : Prop where
  eq : t = { s with
    batch := t.batch, cond := t.cond, reports := t.reports, prover := t.prover }

theorem State.Rebatched.refl (s : State) : s.Rebatched s := ⟨rfl⟩

theorem State.Rebatched.trans (h : s.Rebatched t) (g : t.Rebatched u) : s.Rebatched u :=
  ⟨by conv_lhs => rw [g.eq, h.eq]⟩

theorem State.Raised.rebatched (h : s.Raised t) : s.Rebatched t :=
  ⟨by rw [h.reports, h.prover]; exact h.eq⟩

theorem State.Triggered.rebatched (h : s.Triggered t) : s.Rebatched t :=
  ⟨by rw [h.batch, h.cond, h.prover]; exact h.eq⟩

theorem State.Proved.rebatched (h : s.Proved t) : s.Rebatched t :=
  ⟨by rw [h.batch, h.cond, h.reports]; exact h.eq⟩

theorem State.rebatched_batch (s : State) (b : BatchUnit) : s.Rebatched { s with batch := b } := ⟨rfl⟩

/-! ### Opening the successor -/

theorem State.judge_rebatched (s : State) : s.Rebatched s.judge := by
  obtain ⟨d, h, -⟩ := s.judge_effect
  exact (s.rebatched_batch _).trans h.rebatched

/-- The detector set afresh is all that changes of the batches (R97). -/
theorem State.detectorAfresh_effect (s : State) : s.Rebatched s.detectorAfresh ∧
    ∃ d, s.detectorAfresh.batch = { s.batch with detector := d } := by
  have hjudge : ∀ u : State, ∃ d, (u.setDetector .inside).judge.batch = { u.batch with detector := d } :=
    fun u => by
      obtain ⟨d, -, hb⟩ := (u.setDetector .inside).judge_effect
      exact ⟨d, hb⟩
  unfold State.detectorAfresh
  dsimp only
  split
  · exact ⟨((s.returnCond_raised .interface 1).rebatched.trans (State.rebatched_batch _ _)).trans
      (State.judge_rebatched _), hjudge (s.returnCond .interface 1)⟩
  · exact ⟨(s.rebatched_batch _).trans (State.judge_rebatched _), hjudge s⟩

/-- The head as its opening leaves it (R80). -/
def State.successor (s : State) (b : BatchEntry) : BatchEntry :=
  b.opened (nextSequence s.batch.counter) s.mgmt.stationTime s.mgmt.timeValid

theorem State.openHead_effect {b : BatchEntry} {rest : List BatchEntry} (h : s.batch.schedule = b :: rest) :
    s.Rebatched s.openHead.state ∧ s.openHead.state.batch.schedule = s.successor b :: rest := by
  set o : State := { s with batch := { s.batch with
    schedule := s.successor b :: rest, counter := nextSequence s.batch.counter } } with ho
  have hopen : s.openHead.state = o.detectorAfresh.triggerAll .batchChange := by
    simp only [State.openHead, h]
    rfl
  obtain ⟨hafresh, d, hd⟩ := o.detectorAfresh_effect
  have htrig := State.triggerAll_triggered o.detectorAfresh .batchChange
  rw [hopen]
  exact ⟨((s.rebatched_batch _).trans hafresh).trans htrig.rebatched, by rw [htrig.batch, hd]⟩

/-! ### The completion -/

/-- What follows a ticket where the close is no decommission: the successor opens, and its set may end the ACTIVE
prove (R91, R92). -/
theorem State.succeed_effect {b : BatchEntry} {rest : List BatchEntry} (h : s.batch.schedule = b :: rest)
    (k : SetNo) : s.Rebatched (s.openHead.state.gradeCheck k).state ∧
      (s.openHead.state.gradeCheck k).state.batch.schedule = s.successor b :: rest := by
  obtain ⟨hopen, hsched⟩ := State.openHead_effect h
  have hgrade := s.openHead.state.gradeCheck_proved k
  exact ⟨hopen.trans hgrade.rebatched, by rw [hgrade.batch, hsched]⟩

/-- A completion that is not a decommission: one ticket, and the successor opened (R91, R92). -/
theorem State.completeClose_effect {cause : CloseCause} (hcause : cause ≠ .decommission) {a : BatchEntry}
    {rest : List BatchEntry} (h : s.batch.schedule = a :: rest) :
    { s with tickets := s.tickets ++ [s.makeTicket a cause] }.Rebatched (s.completeClose cause false).state ∧
      (s.completeClose cause false).state.batch.schedule =
        s.successor (rest.headD a.unnominated) :: rest.tail := by
  have hnot : (false || cause == .decommission) = false := by simpa using hcause
  set p := (({ s with tickets := s.tickets ++ [s.makeTicket a cause] }.setSchedule rest).returnCond .overTarget
    1).returnCond .ticketStoreFull 1 with hp
  have hticket : { s with tickets := s.tickets ++ [s.makeTicket a cause] }.Rebatched p := ⟨rfl⟩
  cases rest with
  | nil =>
    obtain ⟨hr, hs⟩ := State.succeed_effect (s := p.setSchedule [a.unnominated]) rfl a.unnominated.set
    have hstate : (s.completeClose cause false).state =
        ((p.setSchedule [a.unnominated]).openHead.state.gradeCheck a.unnominated.set).state := by
      simp only [State.completeClose, h, hnot, Bool.false_eq_true, if_false]
      rfl
    rw [hstate]
    exact ⟨(hticket.trans (p.rebatched_batch _)).trans hr, hs⟩
  | cons b later =>
    obtain ⟨hr, hs⟩ := State.succeed_effect (s := p) (b := b) (rest := later) rfl b.set
    have hstate : (s.completeClose cause false).state = (p.openHead.state.gradeCheck b.set).state := by
      simp only [State.completeClose, h, hnot, Bool.false_eq_true, if_false]
      rfl
    rw [hstate]
    exact ⟨hticket.trans hr, hs⟩

/-! ### The target check -/

theorem State.activeBatch_eq_some {b : BatchEntry} : s.activeBatch = some b ↔
    s.uncommissioned = false ∧ ∃ rest, s.batch.schedule = b :: rest := by
  rw [State.activeBatch]
  cases s.uncommissioned <;> simp [List.head?_eq_some_iff]

/-- Below the target, without one, or with a close pending, the target check does nothing (R89). -/
theorem State.targetCheck_below {b : BatchEntry} (hb : s.activeBatch = some b)
    (h : b.target = none ∨ b.closing.isSome = true ∨ ∃ target, b.target = some target ∧ b.nsv < target * 1000) :
    s.targetCheck = s.work := by
  unfold State.targetCheck
  rw [hb]
  dsimp only
  split
  · rfl
  · next target htarget =>
    refine if_neg ?_
    obtain h | h | ⟨x, hx, hlow⟩ := h
    · simp [htarget] at h
    · simp [Option.ne_none_iff_isSome.2 h]
    · obtain rfl : target = x := Option.some.inj (htarget.symm.trans hx)
      simp [hlow]

theorem State.targetCheck_reached {b : BatchEntry} (hb : s.activeBatch = some b) {target : Nat}
    (htarget : b.target = some target) (hclosing : b.closing = none) (h : target * 1000 ≤ b.nsv) :
    s.targetCheck = (s.beginClose .target).work := by
  simp only [State.targetCheck, hb, htarget, hclosing]
  exact if_pos (by simpa using h)

/-- A close at the target completes at once with a successor and room for the ticket (R88). -/
theorem State.beginClose_target_clear {b next : BatchEntry} {later : List BatchEntry} (hb : s.activeBatch = some b)
    (hclosing : b.closing = none) (hsched : s.batch.schedule = b :: next :: later)
    (hroom : s.tickets.length < 16) : (s.beginClose .target).work = s.completeClose .target false := by
  have hclear : (s.obstaclesFor .target false false).clear = true := by
    simp [State.obstaclesFor, Obstacles.clear, hsched, Config.ticketCapacity]
    omega
  simp only [State.beginClose, hb, hclosing]
  exact congrArg CloseStep.work (if_pos hclear)

/-- A close at the target waits for room or for a successor (R88, R90). -/
theorem State.beginClose_target_waits {b : BatchEntry} (hb : s.activeBatch = some b) (hclosing : b.closing = none)
    (h : 16 ≤ s.tickets.length ∨ s.batch.schedule = [b]) :
    (s.beginClose .target).work = ((s.mapActive fun b =>
      { b with closing := some ⟨.target, s.mgmt.stationTime, false, false⟩ }).followObstacles
        ⟨false, false⟩).work := by
  have hclear : ¬ (s.obstaclesFor .target false false).clear = true := by
    obtain h | h := h
    · simp [State.obstaclesFor, Obstacles.clear, Config.ticketCapacity, h]
    · simp [State.obstaclesFor, Obstacles.clear, h]
  simp only [State.beginClose, hb, hclosing]
  exact congrArg CloseStep.work (if_neg hclear)

theorem State.mapActive_rebatched (s : State) (f : BatchEntry → BatchEntry) : s.Rebatched (s.mapActive f) := by
  unfold State.mapActive
  split
  · exact .refl s
  · split
    · exact .refl s
    · exact s.rebatched_batch _

theorem State.beginClose_target_rebatched (s : State) :
    ∃ l, { s with tickets := l }.Rebatched (s.beginClose .target).work.state := by
  have hsame : { s with tickets := s.tickets }.Rebatched s := .refl s
  unfold State.beginClose
  split
  · exact ⟨_, hsame⟩
  · next b hb =>
    obtain ⟨-, rest, hsched⟩ := State.activeBatch_eq_some.1 hb
    dsimp only
    split
    · exact ⟨_, hsame⟩
    · split
      · exact ⟨_, (State.completeClose_effect (by decide) hsched).1⟩
      · exact ⟨_, (s.mapActive_rebatched _).trans (State.followObstacles_raised ..).rebatched⟩

/-- The target check may add a ticket, and its close keeps what `Rebatched` keeps. -/
theorem State.targetCheck_rebatched (s : State) :
    ∃ l, { s with tickets := l }.Rebatched s.targetCheck.state := by
  unfold State.targetCheck
  split
  · exact ⟨s.tickets, .refl s⟩
  · split
    · exact ⟨s.tickets, .refl s⟩
    · split
      · exact s.beginClose_target_rebatched
      · exact ⟨s.tickets, .refl s⟩

/-! ### The end of a booked frame -/

/-- A run's close changes of the batches at most the level-3 count of the head. -/
theorem State.closeRun_schedule (s : State) (r : RunNo) : ∃ f : BatchEntry → BatchEntry,
    (∀ b, f b = { b with level3 := (f b).level3 }) ∧
    (s.closeRun r).state.batch.schedule = s.batch.schedule.modifyHead f := by
  obtain ⟨f, hf, hb⟩ := (State.setFlags_raised
    (s.setRun r { s.run r with state := .closed, closePending := false, closeTimer := none }) r
    { RunFlags.clear with flowingClosed :=
      ((s.setRun r { s.run r with state := .closed, closePending := false, closeTimer := none }).chainOf
        r).flags.flowingClosed }).schedule
  refine ⟨f, hf, ?_⟩
  have hclear := congrArg BatchUnit.schedule hb
  unfold State.closeRun
  dsimp only
  split
  · rw [(State.endProve_proved ..).batch]
    exact hclear
  · exact hclear

/-- What the processing of a run's frame leaves alone. -/
structure State.FrameKeeps (s t : State) : Prop where
  mgmt : t.mgmt = s.mgmt
  points : t.points = s.points
  tables : t.tables = s.tables
  shifts : t.shifts = s.shifts
  forward : t.forward = s.forward
  responses : t.responses = s.responses
  outbound : t.outbound = s.outbound

theorem State.FrameKeeps.trans (h : s.FrameKeeps t) (g : t.FrameKeeps u) : s.FrameKeeps u :=
  ⟨g.mgmt.trans h.mgmt, g.points.trans h.points, g.tables.trans h.tables, g.shifts.trans h.shifts,
    g.forward.trans h.forward, g.responses.trans h.responses, g.outbound.trans h.outbound⟩

theorem State.Noted.frameKeeps (h : s.Noted t) : s.FrameKeeps t :=
  ⟨h.mgmt, h.points, h.tables, h.shifts, h.forward, h.responses, h.outbound⟩

theorem State.Triggered.frameKeeps (h : s.Triggered t) : s.FrameKeeps t :=
  ⟨h.mgmt, h.points, h.tables, h.shifts, h.forward, h.responses, h.outbound⟩

theorem State.Rebatched.frameKeeps (h : s.Rebatched t) : s.FrameKeeps t :=
  ⟨(congrArg State.mgmt h.eq :), (congrArg State.points h.eq :), (congrArg State.tables h.eq :),
    (congrArg State.shifts h.eq :), (congrArg State.forward h.eq :), (congrArg State.responses h.eq :),
    (congrArg State.outbound h.eq :)⟩

theorem State.targetCheck_frameKeeps (s : State) : s.FrameKeeps s.targetCheck.state := by
  obtain ⟨l, h⟩ := s.targetCheck_rebatched
  exact State.FrameKeeps.trans (t := { s with tickets := l }) ⟨rfl, rfl, rfl, rfl, rfl, rfl, rfl⟩ h.frameKeeps

theorem State.closeRun_frameKeeps (s : State) (r : RunNo) : s.FrameKeeps (s.closeRun r).state := by
  obtain ⟨-, -, h⟩ := s.closeRun_effect r
  exact ⟨(congrArg State.mgmt h :), (congrArg State.points h :), (congrArg State.tables h :),
    (congrArg State.shifts h :), (congrArg State.forward h :), (congrArg State.responses h :),
    (congrArg State.outbound h :)⟩

/-- The report hand-off, a pending close of the run and the notices, after the decision on a frame (R22, R68,
R69). -/
theorem Work.endOfFrame_effect (w : Work) (r : RunNo) {t : State}
    (ht : t = ((w.map (·.reportHandOff r)).andThen (·.endOfFrame r)).finish) :
    w.state.FrameKeeps t ∧ t.totals = w.state.totals ∧ t.tickets = w.state.tickets ∧
    t.runs = w.state.runs.set r (if (w.state.run r).closePending
      then { w.state.run r with state := .closed, closePending := false, closeTimer := none }
      else w.state.run r) ∧
    t.chain = w.state.chain.set r { w.state.chainOf r with
      flags := if (w.state.run r).closePending
        then { RunFlags.clear with flowingClosed := (w.state.chainOf r).flags.flowingClosed }
        else (w.state.chainOf r).flags } ∧
    ∃ f : BatchEntry → BatchEntry, (∀ b, f b = { b with level3 := (f b).level3 }) ∧
      t.batch.schedule = w.state.batch.schedule.modifyHead f := by
  have htrig := w.state.reportHandOff_triggered r
  set u := w.state.reportHandOff r
  have hnoted : (u.endOfFrame r).state.Noted t := by
    rw [ht]
    exact Work.finish_noted ((w.map (·.reportHandOff r)).andThen (·.endOfFrame r))
  have hrun : w.state.run r = u.run r := congrArg (Four.get · r) htrig.runs.symm
  have hchainOf : w.state.chainOf r = u.chainOf r := congrArg (Four.get · r) htrig.chain.symm
  rw [hrun, hchainOf, ← htrig.runs, ← htrig.chain, ← htrig.batch, ← htrig.totals, ← htrig.tickets]
  by_cases hp : (u.run r).closePending
  · rw [State.endOfFrame, if_pos hp] at hnoted
    obtain ⟨hruns, hchain, heq⟩ := u.closeRun_effect r
    obtain ⟨f, hf, hsched⟩ := u.closeRun_schedule r
    rw [if_pos hp, if_pos hp]
    exact ⟨htrig.frameKeeps.trans ((u.closeRun_frameKeeps r).trans hnoted.frameKeeps),
      hnoted.totals.trans (congrArg State.totals heq :), hnoted.tickets.trans (congrArg State.tickets heq :),
      hnoted.runs.trans hruns, hnoted.chain.trans hchain, f, hf, hnoted.batch ▸ hsched⟩
  · rw [State.endOfFrame, if_neg hp] at hnoted
    rw [if_neg hp, if_neg hp]
    refine ⟨htrig.frameKeeps.trans hnoted.frameKeeps, hnoted.totals, hnoted.tickets,
      hnoted.runs.trans (Four.set_get ..).symm, hnoted.chain.trans (Four.set_get ..).symm, id, fun _ => rfl, ?_⟩
    rw [hnoted.batch, List.modifyHead_id]
    rfl

end Sys2Proof.Machine
end

section
/-!
PULSE_FRAME that is booked (R54 to R69, R89, R90).
-/

namespace Sys2Proof.Machine

variable {s t u : State}

/-! ### What the booking reads -/

/-- The inputs depend on the points of the other roles, the run's and the header's configuration, and the
shifts. -/
theorem State.inputs_congr {r : RunNo} (hrole : ∀ role, role ≠ .pulse r → t.findRole role = s.findRole role)
    (hconfig : (t.run r).config = (s.run r).config) (hheader : t.points.header = s.points.header)
    (hshifts : t.shifts = s.shifts) (b : BatchEntry) : t.inputs r b = s.inputs r b := by
  have htemp : t.tempInUse r = s.tempInUse r := by
    rw [State.tempInUse, hconfig]
    exact State.inUse_congr (hrole _ (by simp)) _
  have hpres : t.presInUse r = s.presInUse r := by
    rw [State.presInUse, hconfig]
    exact State.inUse_congr (hrole _ (by simp)) _
  have hwater : t.waterInUse = s.waterInUse := by
    rw [State.waterInUse, hheader]
    exact State.inUse_congr (hrole _ (by simp)) _
  rw [State.inputs, State.inputs, htemp, hpres, hwater, State.shift, hshifts]
  rfl

/-- A frame booked to a run's record adds its NSV to the batch's (R79). -/
theorem BatchEntry.nsv_bookRun (b : BatchEntry) (r : RunNo) (pulses : Nat) (i : Increments) (deg : Bool)
    (inp : Inputs) (x : Factors) :
    (b.bookRun r fun a => a.book pulses i deg inp x).nsv = b.nsv + i.nsv := by
  cases r <;> simp [BatchEntry.nsv, BatchEntry.bookRun, Four.toList, Four.set, Four.get, RunRecord.book] <;> omega

theorem degraded_eq (c : RunConfig) (rate : Rate) (inp : Inputs) (x : Reading) :
    degraded c rate inp x = (!inp.temp.good || !inp.pres.good || !inp.water.good || x.missing || x.curveLimit ||
      x.mfClamped || x.gridLimit || decide (c.maxRate < rate.q) || rate.saturated) := by
  rw [degraded, Inputs.good, Bool.not_and, Bool.not_and]

/-! ### The booking -/

theorem State.mapActive_eq {b : BatchEntry} {rest : List BatchEntry} (hdevice : s.uncommissioned = false)
    (h : s.batch.schedule = b :: rest) (f : BatchEntry → BatchEntry) :
    s.mapActive f = s.setSchedule (f b :: rest) := by
  simp [State.mapActive, hdevice, h]

/-- What is booked of a frame: the inputs in use, the readings, the increments and the degraded mark (R56 to
R63). -/
structure Booking where
  inputs : Inputs
  reading : Reading
  gain : Increments
  degraded : Bool

/-- The booking of a frame of a run to a batch (R56 to R63). -/
def State.booking (s : State) (r : RunNo) (b : BatchEntry) (k : Nat) (rate : Rate) (d : Counts) : Booking :=
  let inp := s.inputs r b
  let x := readFactors (s.tableSet b.set) r b.rho rate.q inp
  { inputs := inp
    reading := x
    gain := increments (s.chainOf r) k d.a x.factors.ccf inp.water.value.toNat b.rho
    degraded := Sys2Proof.Machine.degraded (s.run r).config rate inp x }

/-- The batch entry with a booking (R64, R65). -/
def BatchEntry.booked (b : BatchEntry) (r : RunNo) (d : Counts) (p : Booking) : BatchEntry :=
  b.bookRun r fun a => a.book d.a p.gain p.degraded p.inputs p.reading.factors

/-- The chain record with a booking (R54, R55, R61, R67). -/
def ChainRecord.booked (c : ChainRecord) (cfg : RunConfig) (k rho : Nat) (rate : Rate) (d : Counts)
    (p : Booking) : ChainRecord :=
  { c.carry k d.a p.reading.factors.ccf p.inputs.water.value.toNat rho with
    flags := bookedFlags cfg d rate.q p.reading c.flags
    lastFactors := some p.reading.factors
    lastDegraded := p.degraded }

/-- What a booked frame makes of the run, its chain record, its totalizers and the active batch, before the
target check (R54 to R67). -/
structure State.Booked (s t : State) (r : RunNo) (b : BatchEntry) (k : Nat) (rate : Rate) (d : Counts)
    (p : Booking) : Prop where
  keeps : s.FrameKeeps t
  tickets : t.tickets = s.tickets
  counter : t.batch.counter = s.batch.counter
  runs : t.runs = s.runs.set r { s.run r with state := .metering }
  chain : t.chain = s.chain.set r ((s.chainOf r).booked (s.run r).config k b.rho rate d p)
  totals : t.totals = s.totals.set r ((s.totalsOf r).add p.gain.iv p.gain.gsv p.gain.nsv p.gain.mass)
  schedule : ∃ n, t.batch.schedule = { b with level3 := n }.booked r d p :: s.batch.schedule.tail

theorem State.bookFrame_booked {r : RunNo} {b : BatchEntry} (hb : s.activeBatch = some b) (k : Nat) (rate : Rate)
    (d : Counts) : ∃ t, s.bookFrame r b k rate d = t.targetCheck ∧
      s.Booked t r b k rate d (s.booking r b k rate d) := by
  obtain ⟨hdevice, rest, hsched⟩ := State.activeBatch_eq_some.1 hb
  set p := s.booking r b k rate d with hp
  set m := s.setRun r { s.run r with state := .metering } with hm
  have hconfig : (m.run r).config = (s.run r).config := by rw [hm, State.run_setRun_self]
  have hinp : m.inputs r b = p.inputs :=
    State.inputs_congr (s := s) (t := m) (fun _ _ => rfl) hconfig rfl rfl b
  have hx : readFactors (m.tableSet b.set) r b.rho rate.q p.inputs = p.reading := rfl
  have hdeg : degraded (s.run r).config rate p.inputs p.reading = p.degraded := rfl
  set w := m.setFlags r (bookedFlags (s.run r).config d rate.q p.reading (m.chainOf r).flags) with hw
  have hraised := m.setFlags_raised r (bookedFlags (s.run r).config d rate.q p.reading (m.chainOf r).flags)
  rw [← hw] at hraised
  have hchain : w.chainOf r = { s.chainOf r with
      flags := bookedFlags (s.run r).config d rate.q p.reading (s.chainOf r).flags } := by
    rw [State.chainOf, hraised.chain]
    exact State.chainOf_setChain_self ..
  have hgain : increments (w.chainOf r) k d.a p.reading.factors.ccf p.inputs.water.value.toNat b.rho =
      p.gain := by
    rw [hchain]
    rfl
  obtain ⟨f, hf, hbatch⟩ := hraised.schedule
  have hwsched : w.batch.schedule = f b :: rest := by
    rw [hbatch]
    exact congrArg (List.modifyHead f) hsched
  have hactive : ∀ g, (w.setTotals r ((w.totalsOf r).add p.gain.iv p.gain.gsv p.gain.nsv p.gain.mass)).mapActive
      g = (w.setTotals r ((w.totalsOf r).add p.gain.iv p.gain.gsv p.gain.nsv p.gain.mass)).setSchedule
        (g (f b) :: rest) := fun g =>
    State.mapActive_eq (s := w.setTotals r _) (hraised.uncommissioned.trans hdevice) hwsched g
  refine ⟨((w.setTotals r ((w.totalsOf r).add p.gain.iv p.gain.gsv p.gain.nsv p.gain.mass)).setSchedule
    ((f b).booked r d p :: rest)).setChain r
      { (w.chainOf r).carry k d.a p.reading.factors.ccf p.inputs.water.value.toNat b.rho with
        lastFactors := some p.reading.factors, lastDegraded := p.degraded }, ?_, ?_⟩
  · simp only [State.bookFrame, ← hm, hinp, hx, hconfig, hdeg, ← hw, hgain, hactive]
    rfl
  · refine ⟨⟨hraised.mgmt, hraised.points, hraised.tables, hraised.shifts, hraised.forward, hraised.responses,
      hraised.outbound⟩, hraised.tickets, hraised.counter, hraised.runs, ?_, ?_, (f b).level3, by
        rw [hsched, ← hf b]; rfl⟩
    · rw [State.setChain_chain, hchain]
      exact (congrArg (Four.set · r _) hraised.chain).trans (Four.set_set ..)
    · exact congrArg (fun l : Four Totals => l.set r ((l.get r).add _ _ _ _)) hraised.totals

/-- The booking of a frame depends on the inputs, the tables, the run's configuration and its residues, and of
the batch on its set and density. -/
theorem State.booking_congr {r : RunNo} {b b' : BatchEntry} (hb : b' = { b with level3 := b'.level3 })
    (hinp : t.inputs r b = s.inputs r b) (htables : t.tables = s.tables)
    (hconfig : (t.run r).config = (s.run r).config) {rate : Option Nat}
    (hchain : t.chainOf r = { s.chainOf r with lastRate := rate }) (k : Nat) (x : Rate) (d : Counts) :
    t.booking r b' k x d = s.booking r b k x d := by
  have hb' : t.inputs r b' = s.inputs r b := by rw [hb, ← hinp]; rfl
  rw [State.booking, State.booking, hb', hconfig, State.tableSet, htables, hchain, hb]
  rfl

/-- The frame of an open run at or above its cutoff, while a batch is active (R51 to R54). -/
theorem State.plausibleFrame_booked {r : RunNo} {b : BatchEntry} {k : Nat} {d : Counts}
    (hopen : (s.run r).state ≠ .closed) (hb : s.activeBatch = some b)
    (hk : (s.run r).config.kmilli = some k) (hrate : (s.run r).config.cutoff ≤ (formRate k d).q) :
    s.plausibleFrame r d = (((s.setChain r { s.chainOf r with lastRate := some (formRate k d).q }).bookFrame r b
      k (formRate k d) d).map (·.reportHandOff r)).andThen (·.endOfFrame r) := by
  have hdecide : (s.setChain r { s.chainOf r with lastRate := some (formRate k d).q }).decideFrame r d k
      (formRate k d) = (s.setChain r { s.chainOf r with
        lastRate := some (formRate k d).q }).bookFrame r b k (formRate k d) d := by
    unfold State.decideFrame
    dsimp only
    rw [if_neg (show ¬ ((s.setChain r _).run r).state = .closed from hopen),
      show (s.setChain r _).activeBatch = some b from hb]
    exact if_neg (Nat.not_lt.2 hrate)
  simp only [State.plausibleFrame, hk]
  rw [hdecide]

theorem State.Raised.setChain (h : s.Raised t) (r : RunNo) (c : ChainRecord) :
    (s.setChain r c).Raised (t.setChain r c) := by
  refine ⟨?_, h.levels, h.notices, h.entries, h.schedule⟩
  conv_lhs => rw [h.eq]
  rfl

/-- Raises and returns before a booking do not tell in it. -/
theorem State.Raised.booked {r : RunNo} {b : BatchEntry} {k : Nat} {rate : Rate} {d : Counts} {p : Booking}
    {n : Nat} (h : s.Raised u) (g : u.Booked t r { b with level3 := n } k rate d p) :
    s.Booked t r b k rate d p := by
  obtain ⟨m, hm⟩ := g.schedule
  obtain ⟨f, -, hbatch⟩ := h.schedule
  have hrun : u.run r = s.run r := congrArg (Four.get · r) h.runs
  have hchain : u.chainOf r = s.chainOf r := congrArg (Four.get · r) h.chain
  have htotals : u.totalsOf r = s.totalsOf r := congrArg (Four.get · r) h.totals
  refine ⟨State.FrameKeeps.trans ⟨h.mgmt, h.points, h.tables, h.shifts, h.forward, h.responses, h.outbound⟩
    g.keeps, g.tickets.trans h.tickets, g.counter.trans h.counter, ?_, ?_, ?_, m, ?_⟩
  · rw [g.runs, h.runs, hrun]
  · rw [g.chain, h.chain, hchain, hrun]
  · rw [g.totals, h.totals, htotals]
  · rw [hm, hbatch, List.tail_modifyHead]

/-- The run, its chain record and its totalizers at the end of a booked frame: a pending close of the run takes
effect (R22, R69). -/
theorem State.Booked.endOfFrame {r : RunNo} {b : BatchEntry} {k : Nat} {rate : Rate} {d : Counts} {p : Booking}
    (h : s.Booked t r b k rate d p)
    (hu : u = ((t.targetCheck.map (·.reportHandOff r)).andThen (·.endOfFrame r)).finish) :
    s.FrameKeeps u ∧
    u.totals = s.totals.set r ((s.totalsOf r).add p.gain.iv p.gain.gsv p.gain.nsv p.gain.mass) ∧
    u.runs = s.runs.set r (if (s.run r).closePending
      then { s.run r with state := .closed, closePending := false, closeTimer := none }
      else { s.run r with state := .metering }) ∧
    u.chain = s.chain.set r { (s.chainOf r).booked (s.run r).config k b.rho rate d p with
      flags := if (s.run r).closePending
        then { RunFlags.clear with flowingClosed :=
          ((s.chainOf r).booked (s.run r).config k b.rho rate d p).flags.flowingClosed }
        else ((s.chainOf r).booked (s.run r).config k b.rho rate d p).flags } := by
  obtain ⟨hkeeps, htotals, -, hruns, hchain, -⟩ := Work.endOfFrame_effect t.targetCheck r hu
  obtain ⟨l, hreb⟩ := t.targetCheck_rebatched
  have hwruns := (congrArg State.runs hreb.eq :).trans h.runs
  have hwchain := (congrArg State.chain hreb.eq :).trans h.chain
  have hwrun : t.targetCheck.state.run r = { s.run r with state := .metering } := by
    rw [State.run, hwruns, Four.get_set_self]
  have hwchainOf : t.targetCheck.state.chainOf r = (s.chainOf r).booked (s.run r).config k b.rho rate d p := by
    rw [State.chainOf, hwchain, Four.get_set_self]
  rw [hwrun, hwruns, Four.set_set] at hruns
  rw [hwrun, hwchainOf, hwchain, Four.set_set] at hchain
  exact ⟨h.keeps.trans (t.targetCheck_frameKeeps.trans hkeeps),
    htotals.trans ((congrArg State.totals hreb.eq :).trans h.totals), hruns, hchain⟩

/-- A PULSE frame that is booked: the state before the target check, and the end of the frame from there. -/
theorem exec_pulseFrame_booked {f : Frame} {slot : Nat} {e : MapEntry} {r : RunNo} {base : Counts} {k : Nat}
    {b : BatchEntry} (hs : s.Samples kindPulse f slot e) (hrole : e.role = .pulse r)
    (hc : classify e.record.last f.seqEpoch = .next ∨ classify e.record.last f.seqEpoch = .gap)
    (hbase : e.record.base = some base) (hmoved : 0 < (f.counts.since base).elapsed)
    (hopen : (s.run r).state ≠ .closed) (hk : (s.run r).config.kmilli = some k) (hb : s.activeBatch = some b)
    (hrate : (s.run r).config.cutoff ≤ (formRate k (f.counts.since base)).q) : ∃ t,
      exec .pulseFrame s =
        .next ((t.targetCheck.map (·.reportHandOff r)).andThen (·.endOfFrame r)).finish ∧
      ((s.popHead.setSlot slot (some { e with record := e.record.pulsed f })).setChain r { s.chainOf r with
        lastRate := some (formRate k (f.counts.since base)).q }).Booked t r b k (formRate k (f.counts.since base))
          (f.counts.since base) (s.booking r b k (formRate k (f.counts.since base)) (f.counts.since base)) := by
  obtain ⟨hslot, -⟩ := State.sampleEntry_eq_some hs.2.2.2.2.2
  have hexec := exec_pulseFrame_based hs hrole hc hbase
  rw [if_neg (by omega)] at hexec
  generalize f.counts.since base = d at *
  set rate := formRate k d
  have hsampled := s.sampled_raised slot e f (e.record.pulsed f)
  set v := s.sampled slot e f (e.record.pulsed f)
  obtain ⟨g, hg, hactive⟩ := hsampled.activeBatch
  have hvb : v.activeBatch = some (g b) := hactive.trans (congrArg (Option.map g) hb)
  have hrun : v.run r = s.run r := congrArg (Four.get · r) hsampled.runs
  have hchain : v.chainOf r = s.chainOf r := congrArg (Four.get · r) hsampled.chain
  set w := v.setChain r { s.chainOf r with lastRate := some rate.q }
  have hinp : w.inputs r b = s.inputs r b := State.inputs_congr (s := s) (t := w)
    (fun role hne => State.findRole_sampled hslot (by rw [hrole]; exact hne.symm) f _)
    (congrArg RunUnit.config hrun) (congrArg PointUnit.header hsampled.points :) hsampled.shifts b
  have hbooking : w.booking r (g b) k rate d = s.booking r b k rate d :=
    State.booking_congr (hg b) hinp hsampled.tables (congrArg RunUnit.config hrun)
      (State.chainOf_setChain_self ..) k rate d
  rw [State.plausibleFrame_booked (by rw [hrun]; exact hopen) hvb (by rw [hrun]; exact hk)
    (by rw [hrun]; exact hrate), hchain] at hexec
  obtain ⟨t, hbook, hbooked⟩ := State.bookFrame_booked (s := w) (b := g b) hvb k rate d
  rw [hbook] at hexec
  rw [hbooking, hg b] at hbooked
  exact ⟨t, hexec, (hsampled.setChain r _).booked hbooked⟩

/-! ### The batch after a booked frame -/

/-- A state with another's device and, but for the head's level-3 count, its schedule has its active batch. -/
theorem State.activeBatch_modifyHead (hmgmt : t.mgmt = s.mgmt) {f : BatchEntry → BatchEntry}
    (hf : ∀ b, f b = { b with level3 := (f b).level3 })
    (hsched : t.batch.schedule = s.batch.schedule.modifyHead f) {b : BatchEntry} (hb : s.activeBatch = some b) :
    ∃ n, t.activeBatch = some { b with level3 := n } := by
  obtain ⟨hdevice, rest, hrest⟩ := State.activeBatch_eq_some.1 hb
  refine ⟨(f b).level3, State.activeBatch_eq_some.2 ⟨?_, rest, ?_⟩⟩
  · rw [State.uncommissioned, hmgmt]
    exact hdevice
  · rw [hsched, hrest, List.modifyHead_cons, ← hf b]

/-- Where the target is not reached the booked batch stays. -/
theorem State.endOfFrame_below {r : RunNo} {b : BatchEntry} (hb : s.activeBatch = some b)
    (h : b.target = none ∨ b.closing.isSome = true ∨ ∃ target, b.target = some target ∧ b.nsv < target * 1000)
    (ht : t = ((s.targetCheck.map (·.reportHandOff r)).andThen (·.endOfFrame r)).finish) :
    t.tickets = s.tickets ∧ ∃ n, t.activeBatch = some { b with level3 := n } := by
  obtain ⟨hkeeps, -, htickets, -, -, f, hf, hsched⟩ := Work.endOfFrame_effect _ r ht
  rw [State.targetCheck_below hb h] at htickets hsched hkeeps
  exact ⟨htickets, State.activeBatch_modifyHead hkeeps.mgmt hf hsched hb⟩

/-- A target reached with room and a successor: the ticket and the successor. -/
theorem State.endOfFrame_complete {r : RunNo} {b next : BatchEntry} {later : List BatchEntry}
    (hb : s.activeBatch = some b) {target : Nat} (htarget : b.target = some target) (hclosing : b.closing = none)
    (h : target * 1000 ≤ b.nsv) (hsched : s.batch.schedule = b :: next :: later) (hroom : s.tickets.length < 16)
    (ht : t = ((s.targetCheck.map (·.reportHandOff r)).andThen (·.endOfFrame r)).finish) :
    t.tickets = s.tickets ++ [s.makeTicket b .target] ∧
      ∃ n, t.batch.schedule = { s.successor next with level3 := n } :: later := by
  obtain ⟨-, -, htickets, -, -, f, hf, hafter⟩ := Work.endOfFrame_effect _ r ht
  obtain ⟨hreb, hs⟩ := State.completeClose_effect (cause := .target) (by decide) hsched
  rw [State.targetCheck_reached hb htarget hclosing h,
    State.beginClose_target_clear hb hclosing hsched hroom] at htickets hafter
  refine ⟨htickets.trans (congrArg State.tickets hreb.eq :), (f (s.successor next)).level3, ?_⟩
  rw [hafter, hs, List.headD_cons, List.tail_cons, List.modifyHead_cons, ← hf]

/-- A target reached without room or successor: the close waits, and the booked batch stays. -/
theorem State.endOfFrame_waits {r : RunNo} {b : BatchEntry} (hb : s.activeBatch = some b) {target : Nat}
    (htarget : b.target = some target) (hclosing : b.closing = none) (h : target * 1000 ≤ b.nsv)
    (hobstacle : 16 ≤ s.tickets.length ∨ s.batch.schedule = [b])
    (ht : t = ((s.targetCheck.map (·.reportHandOff r)).andThen (·.endOfFrame r)).finish) :
    t.tickets = s.tickets ∧ ∃ n, t.activeBatch =
      some { b with closing := some ⟨.target, s.mgmt.stationTime, false, false⟩, level3 := n } := by
  obtain ⟨hkeeps, -, htickets, -, -, f, hf, hafter⟩ := Work.endOfFrame_effect _ r ht
  obtain ⟨hdevice, rest, hsched⟩ := State.activeBatch_eq_some.1 hb
  rw [State.targetCheck_reached hb htarget hclosing h, State.beginClose_target_waits hb hclosing hobstacle,
    State.mapActive_eq hdevice hsched] at htickets hafter hkeeps
  set w := s.setSchedule ({ b with closing := some ⟨.target, s.mgmt.stationTime, false, false⟩ } :: rest)
  have hraised := w.followObstacles_raised ⟨false, false⟩
  obtain ⟨g, hg, hbatch⟩ := hraised.schedule
  obtain ⟨n, hn⟩ := State.activeBatch_modifyHead (s := w) hraised.mgmt hg (congrArg BatchUnit.schedule hbatch)
    (State.activeBatch_eq_some.2 ⟨hdevice, rest, rfl⟩)
  exact ⟨htickets.trans hraised.tickets, State.activeBatch_modifyHead hkeeps.mgmt hf hafter hn⟩

/-- Settles O31: the booking before the target check, the end of the frame, and the three outcomes of the check. -/
theorem pulseFrameIsBooked : Obligations.PulseFrameIsBooked := by
  intro s f slot e r base k b hs hrole hc hbase hmoved hopen hk hb hcutoff c d rate inp curve shifted mf grid cpl
    ccf factors isDegraded water i
  obtain ⟨hslot, -⟩ := State.sampleEntry_eq_some hs.2.2.2.2.2
  obtain ⟨t, hexec, hbooked⟩ := exec_pulseFrame_booked hs hrole hc hbase hmoved hopen hk hb hcutoff
  set p := s.booking r b k rate d
  set a := (s.popHead.setSlot slot (some { e with record := e.record.pulsed f })).setChain r
    { s.chainOf r with lastRate := some rate.q }
  set T := ((t.targetCheck.map (·.reportHandOff r)).andThen (·.endOfFrame r)).finish with hT
  have hdeg : p.degraded = isDegraded := degraded_eq ..
  obtain ⟨hkeeps, htotals, hruns, hchain⟩ := hbooked.endOfFrame hT
  obtain ⟨n, hsched⟩ := hbooked.schedule
  set B := ({ b with level3 := n } : BatchEntry).booked r d p
  have hB : t.activeBatch = some B := by
    obtain ⟨hdevice, -⟩ := State.activeBatch_eq_some.1 hb
    refine State.activeBatch_eq_some.2 ⟨?_, _, hsched⟩
    rw [State.uncommissioned, hbooked.keeps.mgmt]
    exact hdevice
  have hnsv : B.nsv = b.nsv + i.nsv := BatchEntry.nsv_bookRun ..
  have hrecords : B.records = b.records.set r ((b.records.get r).book d.a i isDegraded inp factors) := by
    rw [← hdeg]
    rfl
  have hchainOf : a.chainOf r = { s.chainOf r with lastRate := some rate.q } := State.chainOf_setChain_self ..
  have hTchain : T.chainOf r = T.chain.get r := rfl
  rw [hchain, Four.get_set_self, hchainOf] at hTchain
  have hothers : ∀ q, q ≠ r → T.chainOf q = s.chainOf q ∧ T.run q = s.run q := fun q hq => by
    rw [State.chainOf, State.run, hchain, hruns, Four.get_set_of_ne _ _ hq, Four.get_set_of_ne _ _ hq]
    exact ⟨Four.get_set_of_ne _ _ hq, rfl⟩
  have hTrun : (T.run r).state = if (s.run r).closePending then .closed else .metering := by
    rw [State.run, hruns, Four.get_set_self]
    exact apply_ite RunUnit.state ..
  have hslots : T.slotEntry slot = some { e with record := e.record.pulsed f } := by
    rw [State.slotEntry_congr (congrArg _ hkeeps.points)]
    exact State.slotEntry_setSlot_self (s := s.popHead) hslot _
  have hflags : (({ s.chainOf r with lastRate := some rate.q } : ChainRecord).booked c k b.rho rate d p).flags =
      { flowingClosed := (s.chainOf r).flags.flowingClosed
        aboveMax := decide (c.maxRate < rate.q)
        pulseMismatch := c.dual && decide (c.tolerance < ((d.a : Int) - d.b).natAbs)
        curveLimit := curve.atLimit
        curveMissing := curve.missing
        gridLimit := grid.atLimit } := rfl
  have hended := congrArg (fun x : RunFlags =>
    if (s.run r).closePending then { RunFlags.clear with flowingClosed := x.flowingClosed } else x) hflags
  refine ⟨T, hexec, ?_⟩
  rw [hTchain]
  refine ⟨htotals, rfl, rfl, rfl, rfl, rfl, rfl, hdeg, hended,
    hothers, hTrun, hkeeps.tables, hkeeps.shifts, hkeeps.mgmt, hkeeps.forward, hkeeps.responses,
    hkeeps.outbound, hslots, fun hbelow => ?_, fun target seq next later htarget hclosing hreach hseq hs hroom => ?_,
    fun target htarget hclosing hreach hobstacle => ?_⟩
  · have hbelow' : B.target = none ∨ B.closing.isSome = true ∨
        ∃ target, B.target = some target ∧ B.nsv < target * 1000 := by rw [hnsv]; exact hbelow
    obtain ⟨htickets, m, hm⟩ := State.endOfFrame_below hB hbelow' hT
    exact ⟨htickets.trans hbooked.tickets, _, hm, hrecords⟩
  · have htsched : t.batch.schedule = B :: next :: later := by
      rw [hsched, show a.batch = s.batch from rfl, hs]
      rfl
    obtain ⟨htickets, m, hm⟩ := State.endOfFrame_complete hB htarget hclosing (hnsv ▸ hreach) htsched
      (by rw [hbooked.tickets]; exact hroom) hT
    rw [hbooked.tickets] at htickets
    refine ⟨_, _, htickets, ?_, rfl, hnsv, hm, rfl, ?_, rfl⟩
    · exact congrArg (Option.getD · 0) hseq
    · rw [State.successor, hbooked.counter]
      rfl
  · have hobstacle' : 16 ≤ t.tickets.length ∨ t.batch.schedule = [B] := by
      refine hobstacle.imp (fun h => by rw [hbooked.tickets]; exact h) fun h => ?_
      rw [hsched, show a.batch = s.batch from rfl, h]
      rfl
    obtain ⟨htickets, m, hm⟩ := State.endOfFrame_waits hB htarget hclosing (hnsv ▸ hreach) hobstacle' hT
    refine ⟨htickets.trans hbooked.tickets, _, hm, hrecords, ?_⟩
    rw [hbooked.keeps.mgmt]
    rfl

end Sys2Proof.Machine
end

section
/-!
The Table Store: the rounding and the lookups (R42 to R44).
-/

namespace Sys2Proof.Machine

/-! ### The rounding (00_scope.md) -/

@[simp] theorem roundDiv_zero (d : Nat) : roundDiv 0 d = 0 := by
  obtain rfl | hd := Nat.eq_zero_or_pos d
  · rfl
  · simp only [roundDiv, le_refl, if_true]
    exact Int.ediv_eq_zero_of_lt (by omega) (by omega)

/-- Twice the rounded quotient times the divisor lies within one divisor of twice the dividend; of the two
ends only the one away from zero is reached. -/
theorem roundDiv_mul_bounds (n : Int) {d : Nat} (hd : 0 < d) :
    (0 ≤ n → 2 * n - d < 2 * (roundDiv n d * d) ∧ 2 * (roundDiv n d * d) ≤ 2 * n + d) ∧
    (n < 0 → 2 * n - d ≤ 2 * (roundDiv n d * d) ∧ 2 * (roundDiv n d * d) < 2 * n + d) := by
  have hpos : (0 : Int) < 2 * d := by omega
  have key : ∀ a : Int, 2 * a - d < 2 * ((2 * a + d) / (2 * d) * d) ∧
      2 * ((2 * a + d) / (2 * d) * d) ≤ 2 * a + d := fun a => by
    have hle := Int.ediv_mul_le (2 * a + d) hpos.ne'
    have hlt := Int.lt_ediv_add_one_mul_self (2 * a + d) hpos
    constructor <;> linarith
  refine ⟨fun hn => ?_, fun hn => ?_⟩
  · rw [roundDiv, if_pos hn]
    exact key n
  · obtain ⟨hlt, hle⟩ := key (-n)
    rw [roundDiv, if_neg hn.not_ge, neg_mul]
    constructor <;> linarith

/-- The rounding is to the nearest, a tie going away from zero. -/
theorem roundDiv_nearest (n : Int) {d : Nat} (hd : 0 < d) :
    2 * (n - roundDiv n d * d).natAbs ≤ d ∧
      (2 * (n - roundDiv n d * d).natAbs = d → n.natAbs ≤ (roundDiv n d * d).natAbs) := by
  obtain ⟨hnonneg, hneg⟩ := roundDiv_mul_bounds n hd
  generalize roundDiv n d * d = m at *
  omega

theorem roundDiv_mul_self (a : Int) {d : Nat} (hd : 0 < d) : roundDiv (a * d) d = a := by
  have hclose : |a * d - roundDiv (a * d) d * d| < d := by
    have := (roundDiv_nearest (a * d) hd).1
    rw [Int.abs_eq_natAbs]
    omega
  have hdvd : (d : Int) ∣ a * d - roundDiv (a * d) d * d := ⟨a - roundDiv (a * d) d, by ring⟩
  have hzero := Int.eq_zero_of_abs_lt_dvd hdvd hclose
  exact (Int.eq_of_mul_eq_mul_right (by omega) (by omega : a * d = roundDiv (a * d) d * d)).symm

theorem interpolate_left (x0 x1 y0 y1 : Int) : interpolate x0 x1 y0 y1 x0 = y0 := by
  simp [interpolate]

theorem interpolate_right {x0 x1 : Int} (h : x0 < x1) (y0 y1 : Int) : interpolate x0 x1 y0 y1 x1 = y1 := by
  have hround := roundDiv_mul_self (y1 - y0) (d := (x1 - x0).toNat) (by omega)
  rw [Int.toNat_of_nonneg (by omega)] at hround
  rw [interpolate, hround]
  omega

/-! ### Axes in ascending order -/

theorem ascending_iff_pairwise {l : List Int} : ascending l = true ↔ l.Pairwise (· < ·) := by
  rw [← List.isChain_iff_pairwise]
  induction l using ascending.induct with
  | case1 => simp [ascending]
  | case2 a => simp [ascending]
  | case3 a b rest ih => simp [ascending, ih]

section
variable {axis : List Int} {i j : Nat} {x x0 x1 first last : Int}

theorem lt_of_ascending (h : ascending axis = true) (hi : axis[i]? = some x0) (hj : axis[j]? = some x1)
    (hij : i < j) : x0 < x1 := by
  obtain ⟨hi', rfl⟩ := List.getElem?_eq_some_iff.1 hi
  obtain ⟨hj', rfl⟩ := List.getElem?_eq_some_iff.1 hj
  exact List.pairwise_iff_getElem.1 (ascending_iff_pairwise.1 h) i j hi' hj' hij

theorem le_of_ascending (h : ascending axis = true) (hi : axis[i]? = some x0) (hj : axis[j]? = some x1)
    (hij : i ≤ j) : x0 ≤ x1 := by
  obtain rfl | hlt := hij.eq_or_lt
  · exact (Option.some.inj (hi.symm.trans hj)).le
  · exact (lt_of_ascending h hi hj hlt).le

theorem head_le_of_ascending (h : ascending axis = true) (hfirst : axis.head? = some first)
    (hi : axis[i]? = some x) : first ≤ x :=
  le_of_ascending h (List.head?_eq_getElem? ▸ hfirst) hi (Nat.zero_le i)

theorem le_last_of_ascending (h : ascending axis = true) (hlast : axis.getLast? = some last)
    (hi : axis[i]? = some x) : x ≤ last := by
  obtain ⟨hlt, -⟩ := List.getElem?_eq_some_iff.1 hi
  exact le_of_ascending h hi (List.getLast?_eq_getElem? ▸ hlast) (by omega)

/-! ### Placing a coordinate on an axis (R41) -/

theorem clampToAxis_below (hfirst : axis.head? = some first) (hx : x < first) :
    clampToAxis axis x = (first, true) := by
  cases axis with
  | nil => cases hfirst
  | cons a rest =>
    obtain rfl := Option.some.inj hfirst
    simp [clampToAxis, List.getLast?_cons, hx]

theorem clampToAxis_above (h : ascending axis = true) (hlast : axis.getLast? = some last) (hx : last < x) :
    clampToAxis axis x = (last, true) := by
  cases axis with
  | nil => cases hlast
  | cons a rest =>
    have hle : a ≤ last := le_last_of_ascending (i := 0) h hlast rfl
    simp [clampToAxis, hlast, hx, show ¬ x < a by omega]

/-- A coordinate between two points of an axis stays where it is. -/
theorem clampToAxis_between (h : ascending axis = true) (hi : axis[i]? = some x0) (hj : axis[j]? = some x1)
    (h0 : x0 ≤ x) (h1 : x ≤ x1) : clampToAxis axis x = (x, false) := by
  unfold clampToAxis
  split
  · next first last hfirst hlast =>
    have hf := head_le_of_ascending h hfirst hi
    have hl := le_last_of_ascending h hlast hj
    rw [if_neg (by omega), if_neg (by omega)]
  · rfl

theorem clampToAxis_point (h : ascending axis = true) (hi : axis[i]? = some x) :
    clampToAxis axis x = (x, false) := clampToAxis_between h hi hi le_rfl le_rfl

/-- The interior points at or below a coordinate of segment `i` are the first `i` of them. -/
theorem segmentOf_eq (h : ascending axis = true) (hi : axis[i]? = some x0) (hi1 : axis[i + 1]? = some x1)
    (h0 : x0 ≤ x) (h1 : x < x1 ∨ axis.length = i + 2) : segmentOf axis x = i := by
  obtain ⟨hlt, -⟩ := List.getElem?_eq_some_iff.1 hi1
  have hget : ∀ {m y}, ((axis.drop 1).dropLast)[m]? = some y → m + 2 < axis.length ∧ axis[m + 1]? = some y := by
    intro m y hm
    rw [List.getElem?_dropLast] at hm
    split at hm
    · next hlen =>
      rw [List.length_drop] at hlen
      rw [List.getElem?_drop, Nat.add_comm] at hm
      exact ⟨by omega, hm⟩
    · cases hm
  have hbelow : ∀ y ∈ ((axis.drop 1).dropLast).take i, decide (y ≤ x) = true := fun y hy => by
    obtain ⟨m, hm⟩ := List.mem_iff_getElem?.1 hy
    rw [List.getElem?_take] at hm
    split at hm
    · next hmi => exact decide_eq_true ((le_of_ascending h (hget hm).2 hi hmi).trans h0)
    · cases hm
  have habove : ∀ y ∈ ((axis.drop 1).dropLast).drop i, ¬ decide (y ≤ x) = true := fun y hy => by
    obtain ⟨m, hm⟩ := List.mem_iff_getElem?.1 hy
    rw [List.getElem?_drop] at hm
    obtain ⟨hlen, hy⟩ := hget hm
    have hle := le_of_ascending h hi1 hy (by omega)
    have hx : x < y := h1.elim (fun hx => hx.trans_le hle) (fun hend => absurd hend (by omega))
    simpa using hx
  rw [segmentOf, ← List.take_append_drop i ((axis.drop 1).dropLast), List.filter_append,
    List.filter_eq_self.2 hbelow, List.filter_eq_nil_iff.2 habove]
  simp
  omega

/-- The interpolation on the segment that the model picks is the one on any segment that holds the
coordinate: two segments agree at the point they share. The values may be a list's or those of grid rows. -/
theorem interpolate_segmentOf (h : ascending axis = true) (hi : axis[i]? = some x0)
    (hi1 : axis[i + 1]? = some x1) (h0 : x0 ≤ x) (h1 : x ≤ x1) (value : Nat → Int) :
    interpolate (axis.getD (segmentOf axis x) 0) (axis.getD (segmentOf axis x + 1) 0)
        (value (segmentOf axis x)) (value (segmentOf axis x + 1)) x =
      interpolate x0 x1 (value i) (value (i + 1)) x := by
  by_cases hin : x < x1 ∨ axis.length = i + 2
  · rw [segmentOf_eq h hi hi1 h0 hin]
    simp [List.getD_eq_getElem?_getD, hi, hi1]
  · obtain ⟨hge, hlen⟩ := not_or.1 hin
    obtain rfl : x = x1 := by omega
    obtain ⟨hlt, -⟩ := List.getElem?_eq_some_iff.1 hi1
    have hi2 := List.getElem?_eq_getElem (show i + 1 + 1 < axis.length by omega)
    rw [segmentOf_eq h hi1 hi2 le_rfl (.inl (lt_of_ascending h hi1 hi2 (Nat.lt_succ_self _))),
      interpolate_right (lt_of_ascending h hi hi1 (Nat.lt_succ_self _))]
    simp [List.getD_eq_getElem?_getD, hi1, interpolate_left]

theorem interpolateOn_segment {values : List Int} {y0 y1 : Int} (h : ascending axis = true)
    (hi : axis[i]? = some x0) (hi1 : axis[i + 1]? = some x1) (hy0 : values[i]? = some y0)
    (hy1 : values[i + 1]? = some y1) (h0 : x0 ≤ x) (h1 : x ≤ x1) :
    interpolateOn axis values x = interpolate x0 x1 y0 y1 x := by
  refine (interpolate_segmentOf h hi hi1 h0 h1 (values.getD · 0)).trans ?_
  simp [List.getD_eq_getElem?_getD, hy0, hy1]

/-- At a point of an axis of two points or more the interpolation is the point's value (R43). -/
theorem interpolateOn_point {values : List Int} {y : Int} (h : ascending axis = true) (hlen : 2 ≤ axis.length)
    (hvalues : values.length = axis.length) (hi : axis[i]? = some x) (hy : values[i]? = some y) :
    interpolateOn axis values x = y := by
  obtain ⟨hlt, -⟩ := List.getElem?_eq_some_iff.1 hi
  by_cases hend : i + 1 < axis.length
  · have hnext := List.getElem?_eq_getElem hend
    have hvalue := List.getElem?_eq_getElem (hvalues ▸ hend)
    rw [interpolateOn_segment h hi hnext hy hvalue le_rfl (le_of_ascending h hi hnext (Nat.le_succ i)),
      interpolate_left]
  · obtain ⟨m, rfl⟩ : ∃ m, i = m + 1 := ⟨i - 1, by omega⟩
    have hprev := List.getElem?_eq_getElem (show m < axis.length by omega)
    have hvalue := List.getElem?_eq_getElem (show m < values.length by omega)
    have hstep := lt_of_ascending h hprev hi (Nat.lt_succ_self m)
    rw [interpolateOn_segment h hprev hi hvalue hy hstep.le le_rfl, interpolate_right hstep]
end

/-! ### The curve lookup (R43) -/

section
variable {points : List CurvePoint} {i : Nat} {p : CurvePoint}

theorem curveLookup_of_clamp {rate : Nat} {x : Int} {limit : Bool}
    (h : clampToAxis (points.map fun p => (p.rate : Int)) rate = (x, limit)) :
    curveLookup (.curve points) rate =
      ⟨(interpolateOn (points.map fun p => (p.rate : Int)) (points.map fun p => (p.mf : Int)) x).toNat, false,
        limit⟩ := by
  simp [curveLookup, h]

theorem getElem?_map_rate (h : points[i]? = some p) :
    (points.map fun p => (p.rate : Int))[i]? = some (p.rate : Int) := by simp [h]

theorem getElem?_map_mf (h : points[i]? = some p) :
    (points.map fun p => (p.mf : Int))[i]? = some (p.mf : Int) := by simp [h]

/-- A rate that is placed on a point reads that point's factor. -/
theorem curveLookup_of_clamp_point {rate : Nat} {limit : Bool} (hlen : 2 ≤ points.length)
    (h : ascending (points.map fun p => (p.rate : Int)) = true) (hi : points[i]? = some p)
    (hclamp : clampToAxis (points.map fun p => (p.rate : Int)) rate = ((p.rate : Int), limit)) :
    curveLookup (.curve points) rate = ⟨p.mf, false, limit⟩ := by
  rw [curveLookup_of_clamp hclamp, interpolateOn_point h (by simpa using hlen) (by simp) (getElem?_map_rate hi)
    (getElem?_map_mf hi), Int.toNat_natCast]

theorem curveLookup_between {q : CurvePoint} {rate : Nat}
    (h : ascending (points.map fun p => (p.rate : Int)) = true) (hi : points[i]? = some p)
    (hi1 : points[i + 1]? = some q) (h0 : p.rate ≤ rate) (h1 : rate ≤ q.rate) :
    curveLookup (.curve points) rate =
      ⟨((p.mf : Int) + roundDiv (((q.mf : Int) - p.mf) * ((rate : Int) - p.rate)) (q.rate - p.rate)).toNat,
        false, false⟩ := by
  have hp := getElem?_map_rate hi
  have hq := getElem?_map_rate hi1
  have h0' : (p.rate : Int) ≤ rate := by exact_mod_cast h0
  have h1' : (rate : Int) ≤ q.rate := by exact_mod_cast h1
  rw [curveLookup_of_clamp (clampToAxis_between h hp hq h0' h1'),
    interpolateOn_segment h hp hq (getElem?_map_mf hi) (getElem?_map_mf hi1) h0' h1', interpolate,
    Int.toNat_sub]
end

/-! ### The grid lookup (R44) -/

section
variable {t : TableSet} {temps denss : List Int} {temp rho : Int}

/-- A temperature that is placed on an end of its axis reads as that end, with the flag. -/
theorem gridLookup_temp_end {x : Int} (ht : t.tempAxis = some temps)
    (hout : clampToAxis temps temp = (x, true)) (hend : clampToAxis temps x = (x, false)) :
    gridLookup t temp rho = { gridLookup t x rho with atLimit := true } := by
  simp [gridLookup, ht, hout, hend]

/-- A density that is placed on an end of its axis reads as that end, with the flag. -/
theorem gridLookup_dens_end {y : Int} (hd : t.densAxis = some denss)
    (hout : clampToAxis denss rho = (y, true)) (hend : clampToAxis denss y = (y, false)) :
    gridLookup t temp rho = { gridLookup t temp y with atLimit := true } := by
  simp [gridLookup, hd, hout, hend]

theorem TableSet.row_eq {j : Nat} {cells : List GridCell} (h : t.rows[j]? = some (some cells)) :
    t.row j = cells := by
  simp [TableSet.row, List.getD_eq_getElem?_getD, h]

theorem gridLookup_inside {i j : Nat} {lower upper : List GridCell} {x0 x1 y0 y1 : Int} {a b c d : GridCell}
    (ht : t.tempAxis = some temps) (hd : t.densAxis = some denss) (htemps : ascending temps = true)
    (hdenss : ascending denss = true) (hx0 : temps[i]? = some x0) (hx1 : temps[i + 1]? = some x1)
    (hy0 : denss[j]? = some y0) (hy1 : denss[j + 1]? = some y1) (hlower : t.rows[j]? = some (some lower))
    (hupper : t.rows[j + 1]? = some (some upper)) (ha : lower[i]? = some a) (hb : lower[i + 1]? = some b)
    (hc : upper[i]? = some c) (hd' : upper[i + 1]? = some d) (hxt : x0 ≤ temp) (htx : temp ≤ x1)
    (hyr : y0 ≤ rho) (hry : rho ≤ y1) :
    gridLookup t temp rho =
      ⟨(interpolate y0 y1 (interpolate x0 x1 a.ctl b.ctl temp) (interpolate x0 x1 c.ctl d.ctl temp) rho).toNat,
        (interpolate y0 y1 (interpolate x0 x1 a.f b.f temp) (interpolate x0 x1 c.f d.f temp) rho).toNat,
        false⟩ := by
  have hrow : ∀ (v : GridCell → Int) {row : List GridCell} {l r : GridCell}, row[i]? = some l →
      row[i + 1]? = some r → interpolateOn temps (row.map v) temp = interpolate x0 x1 (v l) (v r) temp :=
    fun v _ _ _ hl hr => interpolateOn_segment htemps hx0 hx1 (by simp [hl]) (by simp [hr]) hxt htx
  have hdens : ∀ v : GridCell → Int,
      interpolate (denss.getD (segmentOf denss rho) 0) (denss.getD (segmentOf denss rho + 1) 0)
        (interpolateOn temps ((t.row (segmentOf denss rho)).map v) temp)
        (interpolateOn temps ((t.row (segmentOf denss rho + 1)).map v) temp) rho =
      interpolate y0 y1 (interpolate x0 x1 (v a) (v b) temp) (interpolate x0 x1 (v c) (v d) temp) rho :=
    fun v => by
      rw [interpolate_segmentOf hdenss hy0 hy1 hyr hry fun j => interpolateOn temps ((t.row j).map v) temp,
        TableSet.row_eq hlower, TableSet.row_eq hupper, hrow v ha hb, hrow v hc hd']
  simp only [gridLookup, ht, hd, Option.getD_some, clampToAxis_between htemps hx0 hx1 hxt htx,
    clampToAxis_between hdenss hy0 hy1 hyr hry, hdens, Bool.or_self]
end

/-- Settles O35: a coordinate is placed on its axis, and the interpolation does not depend on which of the
segments that hold it is taken. -/
theorem curveAndGridLookups : Obligations.CurveAndGridLookups := by
  refine ⟨fun points i x hlen hasc hi => ?_, fun points first last rate hlen hasc hfirst hlast => ⟨fun hlt => ?_,
    fun hlt => ?_⟩, fun points i rate x y hasc hi hi1 => curveLookup_between hasc hi hi1, fun _ => rfl,
    fun n d hd => roundDiv_nearest n hd, fun t temps denss ht hd htemps hdenss => ⟨?_, ?_, ?_⟩⟩
  · exact curveLookup_of_clamp_point hlen hasc hi (clampToAxis_point hasc (getElem?_map_rate hi))
  · refine curveLookup_of_clamp_point hlen hasc (List.head?_eq_getElem? ▸ hfirst) (clampToAxis_below ?_ ?_)
    · simp [hfirst]
    · exact_mod_cast hlt
  · refine curveLookup_of_clamp_point hlen hasc (List.getLast?_eq_getElem? ▸ hlast)
      (clampToAxis_above hasc ?_ ?_)
    · simp [hlast]
    · exact_mod_cast hlt
  · intro i j lower upper x0 x1 y0 y1 temp rho a b c d hx0 hx1 hy0 hy1 hlower hupper ha hb hc hd' hxt htx hyr hry
    exact gridLookup_inside ht hd htemps hdenss hx0 hx1 hy0 hy1 hlower hupper ha hb hc hd' hxt htx hyr hry
  · intro temp rho first last hfirst hlast
    exact ⟨fun hlt => gridLookup_temp_end ht (clampToAxis_below hfirst hlt)
        (clampToAxis_point htemps (List.head?_eq_getElem? ▸ hfirst)),
      fun hlt => gridLookup_temp_end ht (clampToAxis_above htemps hlast hlt)
        (clampToAxis_point htemps (List.getLast?_eq_getElem? ▸ hlast))⟩
  · intro temp rho first last hfirst hlast
    exact ⟨fun hlt => gridLookup_dens_end hd (clampToAxis_below hfirst hlt)
        (clampToAxis_point hdenss (List.head?_eq_getElem? ▸ hfirst)),
      fun hlt => gridLookup_dens_end hd (clampToAxis_above hdenss hlast hlt)
        (clampToAxis_point hdenss (List.getLast?_eq_getElem? ▸ hlast))⟩

end Sys2Proof.Machine
end

section
/-!
The requests of the Table Store: BEGIN_LOAD, LOAD_SEGMENT, COMMIT_SET and DISCARD_SET (R28 to R35, R39).
-/

namespace Sys2Proof.Machine

variable {s : State} {f : Frame} {a : Byte} {k : SetNo}

theorem setAt_zero_cons (a : Byte) (p : List Byte) : setAt 0 (a :: p) = Num4.ofNat? a.toNat :=
  congrArg _ (natAt_zero_cons a p)

/-! ### BEGIN_LOAD and DISCARD_SET -/

/-- The shift of the set goes to 1,000,000 in every run, and the other sets keep theirs (R39). -/
theorem State.resetShifts_eq (s : State) (k : SetNo) :
    s.resetShifts k = { s with shifts := s.shifts.map fun x => x.set k 1000000 } := rfl

theorem State.shift_resetShifts (s : State) (k : SetNo) (r : RunNo) (j : SetNo) :
    (s.resetShifts k).shift r j = if j = k then 1000000 else s.shift r j := by
  simp only [State.resetShifts_eq, State.shift, Four.get_map]
  split
  · next h => rw [h, Four.get_set_self]
  · next h => rw [Four.get_set_of_ne _ _ h]

/-- The end of a request that replaces a set and resets its shifts: all else is the answered state. -/
theorem State.conclude_replaced (s : State) (f : Frame) (k : SetNo) (x : TableSet) (b : List Byte) :
    ∃ t, (((s.popHead.setTable k x).resetShifts k).answerDone b).conclude f = t ∧
      t = { s.answered f .done b with tables := s.tables.set k x, shifts := t.shifts } ∧
      ∀ r j, t.shift r j = if j = k then 1000000 else s.shift r j :=
  ⟨_, rfl, rfl, State.shift_resetShifts (s.popHead.setTable k x) k⟩

theorem TableSet.requiredAbsent_begun (m n : Nat) : (TableSet.begun m n).requiredAbsent = 2 + n := by
  simp [TableSet.requiredAbsent, TableSet.begun]

theorem beginLoadRequest_out_of_range {m n : Byte} (h : Num4.ofNat? a.toNat = none ∨ m.toNat < 2 ∨
    16 < m.toNat ∨ n.toNat < 2 ∨ 8 < n.toNat) (s : State) :
    beginLoadRequest [a, m, n] s = s.refuse .refusedRange := by
  simp only [beginLoadRequest, setAt_zero_cons, natAt_succ_cons, natAt_zero_cons]
  split
  · rfl
  · next k hk =>
    refine if_pos ?_
    simp only [hk, reduceCtorEq, false_or] at h
    simp only [within, Bool.or_eq_true, Bool.not_eq_true', decide_eq_false_iff_not]
    omega

theorem beginLoadRequest_in_range {m n : Byte} (hk : Num4.ofNat? a.toNat = some k)
    (hm : 2 ≤ m.toNat ∧ m.toNat ≤ 16) (hn : 2 ≤ n.toNat ∧ n.toNat ≤ 8) (s : State) :
    beginLoadRequest [a, m, n] s = if s.referenced k then s.refuse .refusedInUse else
      ((s.setTable k (.begun m.toNat n.toNat)).resetShifts k).answerDone (byte (2 + n.toNat)) := by
  simp only [beginLoadRequest, setAt_zero_cons, natAt_succ_cons, natAt_zero_cons, hk,
    TableSet.requiredAbsent_begun]
  refine if_neg ?_
  simp [within, hm, hn]

theorem discardSetRequest_of_set (hk : Num4.ofNat? a.toNat = some k) (s : State) :
    discardSetRequest [a] s = if s.referenced k then s.refuse .refusedInUse else
      ((s.setTable k .emptySet).resetShifts k).answerDone [] := by
  simp only [discardSetRequest, setAt_zero_cons, hk]

theorem discardSetRequest_of_none (hk : Num4.ofNat? a.toNat = none) (s : State) :
    discardSetRequest [a] s = s.refuse .refusedRange := by
  simp only [discardSetRequest, setAt_zero_cons, hk]

/-- Settles O36: each request meets its length, and its owner takes one branch for each clause. -/
theorem beginLoadAndDiscardSet : Obligations.BeginLoadAndDiscardSet := by
  refine ⟨fun s f a m n h => ⟨fun hbad => ?_, fun k hk hm2 hm16 hn2 hn8 => ?_⟩,
    fun s f a h => ⟨fun hbad => ?_, fun k hk => ?_⟩⟩
  · exact congrArg _ (State.request_answered h (beginLoadRequest_out_of_range hbad _))
  · have howner := beginLoadRequest_in_range hk ⟨hm2, hm16⟩ ⟨hn2, hn8⟩ s.popHead
    refine ⟨fun href => ?_, fun href => ?_⟩
    · exact congrArg _ (State.request_answered h (howner.trans (if_pos href)))
    · obtain ⟨t, hconclude, ht⟩ := s.conclude_replaced f k (.begun m.toNat n.toNat) (byte (2 + n.toNat))
      refine ⟨t, congrArg _ ((State.request_fits h _).trans ?_), ht⟩
      have hfree : ¬ s.popHead.referenced k = true := Bool.eq_false_iff.1 href
      rw [howner, if_neg hfree, hconclude]
  · exact congrArg _ (State.request_answered h (discardSetRequest_of_none hbad _))
  · have howner := discardSetRequest_of_set hk s.popHead
    refine ⟨fun href => ?_, fun href => ?_⟩
    · exact congrArg _ (State.request_answered h (howner.trans (if_pos href)))
    · obtain ⟨t, hconclude, ht⟩ := s.conclude_replaced f k .emptySet []
      refine ⟨t, congrArg _ ((State.request_fits h _).trans ?_), ht⟩
      have hfree : ¬ s.popHead.referenced k = true := Bool.eq_false_iff.1 href
      rw [howner, if_neg hfree, hconclude]

/-! ### LOAD_SEGMENT -/

theorem lengthFits_loadSegment {c i n : Byte} {v : List Byte} {w : Nat}
    (hw : segmentValueWidth c.toNat = some w) (hv : v.length = n.toNat * w) (a : Byte) :
    lengthFits 8 (a :: c :: i :: n :: v) = true := by
  simp [lengthFits, requiredLength, natAt_succ_cons, natAt_zero_cons, hw, hv, Nat.add_comm 4]

/-- A LOAD_SEGMENT for a LOADING set whose segment passes its checks leaves the set with it (R30, R31). -/
theorem exec_loadSegment_stores {c i n : Byte} {v : List Byte} {w : Nat} {z : Sizes} {t : TableSet}
    (h : s.Requests 8 f (a :: c :: i :: n :: v)) (hk : Num4.ofNat? a.toNat = some k)
    (hstate : (s.tableSet k).state = .loading) (hsizes : (s.tableSet k).sizes = some z)
    (hw : segmentValueWidth c.toNat = some w) (hv : v.length = n.toNat * w)
    (hstore : (s.tableSet k).store z (a :: c :: i :: n :: v) = some t) :
    ∃ payload, exec .loadSegment s = .next ((s.popHead.setTable k t).queueResponse f .done payload) := by
  refine ⟨byte t.requiredAbsent, congrArg _ ((State.request_of_requests h (by decide) _).trans ?_)⟩
  have howner : loadSegmentRequest (a :: c :: i :: n :: v) s.popHead =
      (s.popHead.setTable k t).answerDone (byte t.requiredAbsent) := by
    have hset : s.popHead.tableSet k = s.tableSet k := rfl
    simp only [loadSegmentRequest, setAt_zero_cons, hk, hset, hstate, hsizes, hstore]
  rw [if_pos (lengthFits_loadSegment hw hv a), howner, State.conclude_answerDone]

section
variable {t : TableSet} {z : Sizes} {i n : Byte} {v : List Byte}

theorem TableSet.store_tempAxis (hn : n.toNat = z.temp)
    (h : (tempPoints (a :: 0 :: i :: n :: v)).all (withinInt (-5000) 15000) = true) :
    t.store z (a :: 0 :: i :: n :: v) =
      some { t with tempAxis := some (tempPoints (a :: 0 :: i :: n :: v)) } := by
  simp only [TableSet.store, natAt_succ_cons, natAt_zero_cons]
  exact if_pos ⟨hn, h⟩

theorem TableSet.store_densAxis (hn : n.toNat = z.dens)
    (h : (densPoints (a :: 1 :: i :: n :: v)).all (withinInt 50000 120000) = true) :
    t.store z (a :: 1 :: i :: n :: v) =
      some { t with densAxis := some (densPoints (a :: 1 :: i :: n :: v)) } := by
  simp only [TableSet.store, natAt_succ_cons, natAt_zero_cons]
  exact if_pos ⟨hn, h⟩

theorem TableSet.store_row (h1 : 1 ≤ i.toNat) (hi : i.toNat ≤ z.dens) (hn : n.toNat = z.temp)
    (h : (rowCells (a :: 2 :: i :: n :: v)).all GridCell.inRange = true) :
    t.store z (a :: 2 :: i :: n :: v) =
      some { t with rows := t.rows.set (i.toNat - 1) (some (rowCells (a :: 2 :: i :: n :: v))) } := by
  simp only [TableSet.store, natAt_succ_cons, natAt_zero_cons]
  exact if_pos ⟨h1, hi, hn, h⟩

theorem TableSet.store_curve {r : RunNo} (hr : Num4.ofNat? i.toNat = some r) (h2 : 2 ≤ n.toNat)
    (h12 : n.toNat ≤ 12) (h : (curvePoints (a :: 3 :: i :: n :: v)).all CurvePoint.inRange = true) :
    t.store z (a :: 3 :: i :: n :: v) =
      some { t with curves := t.curves.set r (.curve (curvePoints (a :: 3 :: i :: n :: v))) } := by
  simp only [TableSet.store, natAt_succ_cons, natAt_zero_cons, hr]
  exact if_pos (Bool.and_eq_true_iff.2 ⟨within_eq_true.2 ⟨h2, h12⟩, h⟩)

theorem TableSet.store_noCurve {r : RunNo} (hr : Num4.ofNat? i.toNat = some r) :
    t.store z (a :: 4 :: i :: n :: v) = some { t with curves := t.curves.set r .noCurve } := by
  simp only [TableSet.store, natAt_succ_cons, natAt_zero_cons, hr]
  rfl
end

/-- Settles O37: one segment kind after the other. -/
theorem loadSegmentStores : Obligations.LoadSegmentStores := by
  refine fun s f a i n v k z hk hstate hsizes => ⟨fun h hv hn hin => ?_, fun h hv hn hin => ?_,
    fun h hv h1 hi hn hin => ?_, fun r h hr hv h2 h12 hin => ?_, fun r h hr => ?_⟩
  · exact exec_loadSegment_stores h hk hstate hsizes rfl hv (TableSet.store_tempAxis hn hin)
  · exact exec_loadSegment_stores h hk hstate hsizes rfl hv (TableSet.store_densAxis hn hin)
  · exact exec_loadSegment_stores h hk hstate hsizes rfl hv (TableSet.store_row h1 hi hn hin)
  · exact exec_loadSegment_stores h hk hstate hsizes rfl hv (TableSet.store_curve hr h2 h12 hin)
  · exact exec_loadSegment_stores h hk hstate hsizes rfl rfl (TableSet.store_noCurve hr)

/-! ### COMMIT_SET -/

section
variable {v : List Byte}

theorem commitSetRequest_of_none (hk : Num4.ofNat? a.toNat = none) (s : State) :
    commitSetRequest (a :: v) s = s.refuse .refusedRange := by
  simp only [commitSetRequest, setAt_zero_cons, hk]

theorem commitSetRequest_not_loading (hk : Num4.ofNat? a.toNat = some k)
    (h : (s.tableSet k).state ≠ .loading) : commitSetRequest (a :: v) s = s.refuse .refusedState := by
  simp only [commitSetRequest, setAt_zero_cons, hk, if_pos h]

theorem commitSetRequest_incomplete (hk : Num4.ofNat? a.toNat = some k)
    (h : (s.tableSet k).state = .loading) (hc : (s.tableSet k).complete = false) :
    commitSetRequest (a :: v) s = s.checkFailed 0 none := by
  simp [commitSetRequest, setAt_zero_cons, hk, h, hc]

theorem commitSetRequest_out_of_order (hk : Num4.ofNat? a.toNat = some k)
    (h : (s.tableSet k).state = .loading) (hc : (s.tableSet k).complete = true)
    (ho : (s.tableSet k).ordered = false) :
    commitSetRequest (a :: v) s = s.checkFailed 1 (some (crc32 (s.tableSet k).image)) := by
  simp [commitSetRequest, setAt_zero_cons, hk, h, hc, ho, TableSet.computedSignature]

/-- The last check compares the signature of the image with the expected one, and a set that passes it is
committed (R32, R34). -/
theorem commitSetRequest_ordered (hk : Num4.ofNat? a.toNat = some k) (hv : v.length = 4)
    (h : (s.tableSet k).state = .loading) (hc : (s.tableSet k).complete = true)
    (ho : (s.tableSet k).ordered = true) :
    commitSetRequest (a :: v) s =
      if (crc32 (s.tableSet k).image).toNat ≠ natOf v then
        s.checkFailed 2 (some (crc32 (s.tableSet k).image))
      else
        (s.setTable k { s.tableSet k with
          state := .committed, signature := some (crc32 (s.tableSet k).image),
          curves := (s.tableSet k).curves.map CurveSlot.committed }).answerDone
            (field 4 (crc32 (s.tableSet k).image).toNat) := by
  have hexpected : natAt 1 4 (a :: v) = natOf v := by
    rw [natAt_succ_cons]
    exact congrArg natOf (List.take_of_length_le hv.le)
  simp [commitSetRequest, setAt_zero_cons, hk, h, hc, ho, hexpected, TableSet.computedSignature]
end

/-- Settles O38: the checks in their order, each on the state with the request off the head. -/
theorem commitSetMakesTheSetUsable : Obligations.CommitSetMakesTheSetUsable := by
  intro s f a v h hv
  have hlen : fixedLength 9 = some (a :: v).length := by simp [fixedLength, hv]
  refine ⟨fun hk => ?_, fun k hk hstate => ?_, fun k hk hstate => ⟨fun hc => ?_, fun hc ho => ?_,
    fun hc ho hsig => ?_, fun hc ho hsig => ?_⟩⟩
  · exact congrArg _ (State.request_answered h (commitSetRequest_of_none hk _) (hlen := hlen))
  · exact congrArg _ (State.request_answered h
      (commitSetRequest_not_loading (s := s.popHead) hk hstate) (hlen := hlen))
  · exact congrArg _ (State.request_answered h
      (commitSetRequest_incomplete (s := s.popHead) hk hstate hc) (hlen := hlen))
  · exact congrArg _ (State.request_answered h
      (commitSetRequest_out_of_order (s := s.popHead) hk hstate hc ho) (hlen := hlen))
  · exact congrArg _ (State.request_answered h
      ((commitSetRequest_ordered (s := s.popHead) hk hv hstate hc ho).trans (if_pos hsig.symm))
      (hlen := hlen))
  · refine congrArg _ ((State.request_fits h _ (hlen := hlen)).trans ?_)
    rw [(commitSetRequest_ordered (s := s.popHead) hk hv hstate hc ho).trans (if_neg (not_not.2 hsig.symm))]
    rfl

end Sys2Proof.Machine
end

section
/-!
The arithmetic of a booked frame: the rounded rate with its saturation, and the increments that carry their
residues (R51, R61, R62).
-/

namespace Sys2Proof.Machine

/-! ### The rate (R51) -/

/-- Twice the dividend lies within one divisor of twice the rounded quotient times the divisor, a tie going
up. -/
theorem roundNat_mul_bounds (n : Nat) {d : Nat} (hd : 0 < d) :
    2 * d * roundNat n d ≤ 2 * n + d ∧ 2 * n < 2 * d * roundNat n d + d := by
  have hle := Nat.mul_div_le (2 * n + d) (2 * d)
  have hlt := Nat.lt_mul_div_succ (2 * n + d) (show 0 < 2 * d by omega)
  rw [Nat.mul_succ] at hlt
  unfold roundNat
  omega

/-- A rounded quotient above 99,999,999 has a quotient of at least 99,999,999.5. -/
theorem le_of_maxRate_lt_roundNat {n d : Nat} (hd : 0 < d) (h : Config.maxRate < roundNat n d) :
    d * 199999999 ≤ 2 * n := by
  have hfull : 100000000 * (2 * d) ≤ roundNat n d * (2 * d) := Nat.mul_le_mul_right _ h
  linarith [(roundNat_mul_bounds n hd).1]

theorem formRate_of_le {k : Nat} {d : Counts}
    (h : roundNat (d.a * 3600000000000000) (k * d.elapsed) ≤ Config.maxRate) :
    formRate k d = ⟨roundNat (d.a * 3600000000000000) (k * d.elapsed), false⟩ := if_neg h.not_gt

theorem formRate_of_gt {k : Nat} {d : Counts}
    (h : Config.maxRate < roundNat (d.a * 3600000000000000) (k * d.elapsed)) :
    formRate k d = ⟨Config.maxRate, true⟩ := if_pos h

/-! ### The increments (R61) -/

/-- What remains of a volume where a share in ppm is taken off it, with a residue carried, is at most the
volume: all of it without the share, and nothing where the share is all. -/
theorem carried_share_bounds (volume share : Nat) {residue : Nat} (h : residue < 1000000) :
    (volume * (1000000 - share) + residue) / 1000000 ≤ volume ∧
    (share = 0 → (volume * (1000000 - share) + residue) / 1000000 = volume) ∧
    (share = 1000000 → (volume * (1000000 - share) + residue) / 1000000 = 0) := by
  refine ⟨?_, ?_, ?_⟩
  · have hshare : volume * (1000000 - share) ≤ volume * 1000000 :=
      Nat.mul_le_mul_left _ (Nat.sub_le _ _)
    omega
  · rintro rfl
    omega
  · rintro rfl
    omega

/-- Settles O33: the rate by the bounds of its rounding, the increments by division with remainder. -/
theorem rateAndExactCarry : Obligations.RateAndExactCarry := by
  refine ⟨fun k d hk hd => ?_, fun c k pulses ccf water rho hk => ?_⟩
  · have hdiv : 0 < k * d.elapsed := Nat.mul_pos hk hd
    rcases Nat.lt_or_ge Config.maxRate (roundNat (d.a * 3600000000000000) (k * d.elapsed)) with hq | hq
    · rw [formRate_of_gt hq]
      exact ⟨fun _ => ⟨rfl, le_of_maxRate_lt_roundNat hdiv hq⟩, nofun⟩
    · rw [formRate_of_le hq]
      obtain ⟨hle, hlt⟩ := roundNat_mul_bounds (d.a * 3600000000000000) hdiv
      exact ⟨nofun, fun _ => ⟨hq, hle, hlt⟩⟩
  · exact ⟨Nat.div_add_mod' .., Nat.div_add_mod' .., Nat.div_add_mod' .., Nat.div_add_mod' ..,
      Nat.mod_lt _ hk, Nat.mod_lt _ (by decide), Nat.mod_lt _ (by decide), Nat.mod_lt _ (by decide),
      fun h => (carried_share_bounds _ water h).1, fun h => (carried_share_bounds _ water h).2.1,
      fun h => (carried_share_bounds _ water h).2.2⟩

end Sys2Proof.Machine
end

section
/-!
What the invariants of the measurement speak of: the residues with the K-factors, the runs' condition flags with
the device state, and the entries 91 … 114 of the condition table. An operation that leaves all of these keeps
the three invariants, and so does a run of such operations (R17, R61, R62, R70, R71, R140).
-/

namespace Sys2Proof.Machine

variable {s t u : State}

/-! ### The latched conditions of a run (R70, R140) -/

/-- The kinds of condition that follow a run's flags, in table order (R70). -/
def CondKind.latched : List CondKind :=
  [.pulseMismatch, .flowAboveMax, .curveLimit, .curveMissing, .gridLimit, .oosFlow]

/-- The flag that a kind of condition follows; the kinds that follow none read as clear. -/
def RunFlags.of (x : RunFlags) : CondKind → Bool
  | .pulseMismatch => x.pulseMismatch
  | .flowAboveMax => x.aboveMax
  | .curveLimit => x.curveLimit
  | .curveMissing => x.curveMissing
  | .gridLimit => x.gridLimit
  | .oosFlow => x.flowingClosed
  | .seqGap | .frontendRestart | .frameImplausible | .valueHeld | .valueSubstituted | .valueClamped
  | .checkError | .inboundDrop | .unmappedPoint | .interface | .overTarget | .ticketStoreFull
  | .strayPass => false

/-- Flags that are set only where others are. -/
def RunFlags.Within (x y : RunFlags) : Prop := ∀ k, x.of k = true → y.of k = true

@[simp] theorem RunFlags.clear_of (k : CondKind) : RunFlags.clear.of k = false := by cases k <;> rfl

theorem RunFlags.clear_within (x : RunFlags) : RunFlags.clear.Within x := fun k h => by simp at h

/-- Flags without the five metering flags (R53, R69). -/
theorem RunFlags.clearMetering_within (x : RunFlags) :
    ({ RunFlags.clear with flowingClosed := x.flowingClosed }).Within x := fun k h => by
  cases k
  case oosFlow => exact h
  all_goals cases h

/-- Flags without flowing-while-closed (R21). -/
theorem RunFlags.clearFlowing_within (x : RunFlags) : ({ x with flowingClosed := false }).Within x :=
  fun k h => by
    cases k
    case oosFlow => cases h
    all_goals exact h

theorem RunFlags.eq_of_of {x y : RunFlags} (h : ∀ k, x.of k = y.of k) : x = y := by
  cases x
  cases y
  simp only [RunFlags.mk.injEq]
  exact ⟨h .oosFlow, h .flowAboveMax, h .pulseMismatch, h .curveLimit, h .curveMissing, h .gridLimit⟩

theorem RunFlags.Within.eq_clear {x : RunFlags} (h : x.Within .clear) : x = .clear :=
  RunFlags.eq_of_of fun k => by
    rw [RunFlags.clear_of, Bool.eq_false_iff]
    exact fun hx => by simpa using h k hx

/-- Two entries of runs' latched conditions are the same place of the table only for one kind and one run. -/
theorem CondKind.latched_place_inj {k j : CondKind} (hk : k ∈ CondKind.latched) (hj : j ∈ CondKind.latched)
    {r q : RunNo} : k.entry r.toNat - 1 = j.entry q.toNat - 1 → k = j ∧ r = q := by
  have table : ∀ k ∈ CondKind.latched, ∀ j ∈ CondKind.latched, ∀ r ∈ Num4.all, ∀ q ∈ Num4.all,
      k.entry r.toNat - 1 = j.entry q.toNat - 1 → k = j ∧ r = q := by decide
  exact table k hk j hj r r.mem_all q q.mem_all

theorem CondKind.latched_place_bounds {k : CondKind} (hk : k ∈ CondKind.latched) (r : RunNo) :
    91 ≤ k.entry r.toNat ∧ k.entry r.toNat ≤ 114 := by
  have table : ∀ k ∈ CondKind.latched, ∀ r ∈ Num4.all,
      91 ≤ k.entry r.toNat ∧ k.entry r.toNat ≤ 114 := by decide
  exact table k hk r r.mem_all

/-- `State.ConditionsFollow` for the six kinds at once. -/
theorem State.conditionsFollow_iff : s.ConditionsFollow ↔ s.TablesWhole ∧
    ∀ k ∈ CondKind.latched, ∀ r, (s.entry (k.entry r.toNat)).active = (s.chainOf r).flags.of k := by
  have place : ∀ k ∈ CondKind.latched, ∀ r : RunNo, k.entry r.toNat = k.first - 1 + r.toNat := by
    intro k hk r
    have hfirst : ∀ k ∈ CondKind.latched, 1 ≤ k.first := by decide
    have := hfirst k hk
    have : 1 ≤ r.toNat := by cases r <;> decide
    unfold CondKind.entry
    omega
  have six : (∀ k ∈ CondKind.latched, ∀ r,
      (s.entry (k.entry r.toNat)).active = (s.chainOf r).flags.of k) ↔
      ∀ k ∈ CondKind.latched, ∀ r, (s.entry (k.first - 1 + r.toNat)).active = (s.chainOf r).flags.of k :=
    forall₂_congr fun k hk => forall_congr' fun r => by rw [place k hk r]
  rw [six]
  simp only [CondKind.latched, List.forall_mem_cons, List.not_mem_nil, false_implies, implies_true, and_true]
  constructor
  · intro h
    exact ⟨h.toTablesWhole, h.mismatch, h.aboveMax, h.curveLimit, h.curveMissing, h.gridLimit, h.outOfService⟩
  · rintro ⟨hw, hmismatch, hmax, hlimit, hmissing, hgrid, hoos⟩
    exact { hw with
      mismatch := hmismatch, aboveMax := hmax, curveLimit := hlimit, curveMissing := hmissing
      gridLimit := hgrid, outOfService := hoos }

/-! ### Residues of one run (R62) -/

/-- A run's residues lie below their divisors, the IV residue below the K-factor where there is one. -/
structure ChainRecord.Below (c : ChainRecord) (kmilli : Option Nat) : Prop where
  iv : ∀ k, kmilli = some k → c.ivRes < k
  gsv : c.gsvRes < 1000000
  nsv : c.nsvRes < 1000000
  mass : c.massRes < 100000

theorem State.residuesBelow_iff : s.ResiduesBelow ↔ ∀ r,
    (∀ k, (s.run r).config.kmilli = some k → 1000 ≤ k) ∧ (s.chainOf r).Below (s.run r).config.kmilli :=
  ⟨fun h r => ⟨h.kmilli r, h.iv r, h.gsv r, h.nsv r, h.mass r⟩,
    fun h => ⟨fun r => (h r).1, fun r => (h r).2.iv, fun r => (h r).2.gsv, fun r => (h r).2.nsv,
      fun r => (h r).2.mass⟩⟩

/-! ### Keeping the invariants -/

/-- What holds of one state's residues, flags and latched conditions holds of the next one's. -/
structure State.Keeps (s t : State) : Prop where
  residues : s.ResiduesBelow → t.ResiduesBelow
  quiet : s.FlagsQuiet → t.FlagsQuiet
  conditions : s.ConditionsFollow → t.ConditionsFollow

theorem State.Keeps.refl (s : State) : s.Keeps s := ⟨id, id, id⟩

theorem State.Keeps.trans (h : s.Keeps t) (g : t.Keeps u) : s.Keeps u :=
  ⟨g.residues ∘ h.residues, g.quiet ∘ h.quiet, g.conditions ∘ h.conditions⟩

/-- Nothing that the three invariants speak of changes: the K-factors, the chain records, the device state, the
sizes of the tables, and which entries of runs' latched conditions are active. The last is asked only of a point
map of fifteen slots, whose slots' entries all stand before entry 91. -/
structure State.Alike (s t : State) : Prop where
  config : ∀ r, (t.run r).config = (s.run r).config
  chain : t.chain = s.chain
  device : t.mgmt.device = s.mgmt.device
  slots : t.points.map.length = s.points.map.length
  entries : t.cond.entries.length = s.cond.entries.length
  active : s.points.map.length = 15 → ∀ n, 91 ≤ n → n ≤ 114 → (t.entry n).active = (s.entry n).active

theorem State.Alike.refl (s : State) : s.Alike s := ⟨fun _ => rfl, rfl, rfl, rfl, rfl, fun _ _ _ _ => rfl⟩

theorem State.Alike.trans (h : s.Alike t) (g : t.Alike u) : s.Alike u where
  config r := (g.config r).trans (h.config r)
  chain := g.chain.trans h.chain
  device := g.device.trans h.device
  slots := g.slots.trans h.slots
  entries := g.entries.trans h.entries
  active hs n hlow hhigh := (g.active (h.slots.trans hs) n hlow hhigh).trans (h.active hs n hlow hhigh)

theorem State.Alike.chainOf (h : s.Alike t) (r : RunNo) : t.chainOf r = s.chainOf r :=
  congrArg (·.get r) h.chain

theorem State.Alike.uncommissioned (h : s.Alike t) : t.uncommissioned = s.uncommissioned := by
  rw [State.uncommissioned, h.device, State.uncommissioned]

theorem State.Alike.keeps (h : s.Alike t) : s.Keeps t where
  residues hs := State.residuesBelow_iff.2 fun r => by
    rw [h.config, h.chainOf]
    exact State.residuesBelow_iff.1 hs r
  quiet hs hd r := by
    rw [h.chainOf]
    exact hs (h.device ▸ hd) r
  conditions hs := by
    obtain ⟨hw, hactive⟩ := State.conditionsFollow_iff.1 hs
    refine State.conditionsFollow_iff.2 ⟨⟨h.slots.trans hw.slots, h.entries.trans hw.entries⟩, fun k hk r => ?_⟩
    obtain ⟨hlow, hhigh⟩ := CondKind.latched_place_bounds hk r
    rw [h.active hw.slots _ hlow hhigh, hactive k hk r, h.chainOf]

/-- A change outside the Run Units, the chain, the device state, the point map and the condition entries. -/
theorem State.alike_of_blocks (hr : t.runs = s.runs := by rfl) (hc : t.chain = s.chain := by rfl)
    (hd : t.mgmt.device = s.mgmt.device := by rfl)
    (hp : t.points.map.length = s.points.map.length := by rfl)
    (he : t.cond.entries = s.cond.entries := by rfl) : s.Alike t :=
  ⟨fun r => by rw [State.run, hr, State.run], hc, hd, hp, by rw [he],
    fun _ n _ _ => by rw [State.entry_congr he]⟩

/-! ### Raises, notices, triggers and the ends of proves -/

theorem State.Noted.alike (h : s.Noted t) : s.Alike t :=
  State.alike_of_blocks h.runs h.chain (by rw [h.mgmt]) (by rw [h.points]) h.entries

theorem State.Triggered.alike (h : s.Triggered t) : s.Alike t :=
  State.alike_of_blocks h.runs h.chain (by rw [h.mgmt]) (by rw [h.points]) (by rw [h.cond])

theorem State.Proved.alike (h : s.Proved t) : s.Alike t :=
  State.alike_of_blocks h.runs h.chain (by rw [h.mgmt]) (by rw [h.points]) (by rw [h.cond])

theorem State.Raised.alike (h : s.Raised t)
    (he : s.points.map.length = 15 → ∀ n, 91 ≤ n → n ≤ 114 → t.entry n = s.entry n) : s.Alike t :=
  ⟨fun r => by rw [State.run, h.runs, State.run], h.chain, by rw [h.mgmt], by rw [h.points], h.entries,
    fun hs n hlow hhigh => by rw [he hs n hlow hhigh]⟩

/-- The entry of a kind for a slot or run is none of a run's latched conditions. -/
def CondKind.Apart (k : CondKind) (i : Nat) : Prop := k.entry i < 91 ∨ 114 < k.entry i

theorem CondKind.Apart.ne {k : CondKind} {i n : Nat} (h : k.Apart i) (hlow : 91 ≤ n) (hhigh : n ≤ 114) :
    n - 1 ≠ k.entry i - 1 := by
  unfold CondKind.Apart at h
  omega

/-- The conditions of the fifteen slots stand before those of the runs. -/
theorem CondKind.apart_of_slot {k : CondKind} (hk : k.first ≤ 76) {slot : Nat} (hslot : slot ≤ 15) :
    k.Apart slot := by
  unfold CondKind.Apart CondKind.entry
  omega

section
variable {k : CondKind} {i : Nat} (h : s.points.map.length = 15 → k.Apart i)
include h

theorem State.raise_alike : s.Alike (s.raise k i) :=
  (s.raise_raised k i).alike fun hs _ hlow hhigh => State.entry_raise_of_ne ((h hs).ne hlow hhigh)

theorem State.returnCond_alike : s.Alike (s.returnCond k i) :=
  (s.returnCond_raised k i).alike fun hs _ hlow hhigh => State.entry_returnCond_of_ne ((h hs).ne hlow hhigh)

theorem State.occur_alike : s.Alike (s.occur k i) :=
  (s.occur_raised k i).alike fun hs _ hlow hhigh => State.entry_occur_of_ne ((h hs).ne hlow hhigh)

theorem State.follow_alike (before after : Bool) : s.Alike (s.follow k i before after) :=
  (s.follow_raised k i before after).alike fun hs _ hlow hhigh =>
    State.entry_follow_of_ne before after ((h hs).ne hlow hhigh)

theorem State.raiseEntry_alike : s.Alike (s.raiseEntry k i) := by
  refine (s.raiseEntry_raised k i).alike fun hs n hlow hhigh => ?_
  unfold State.raiseEntry
  split
  · exact State.entry_modifyEntry_of_ne _ ((h hs).ne hlow hhigh)
  · rfl
end

theorem State.countLevel3_alike (s : State) (k : CondKind) : s.Alike (s.countLevel3 k) :=
  (s.countLevel3_raised k).alike fun _ n _ _ => State.entry_congr (congrArg _ (s.countLevel3_cond k)) n

/-- An entry changes without its condition beginning or ending. -/
theorem State.modifyEntry_alike (s : State) (n : Nat) {f : CondEntry → CondEntry}
    (hf : ∀ e, (f e).active = e.active) : s.Alike (s.modifyEntry n f) := by
  refine ⟨fun _ => rfl, rfl, rfl, rfl, by simp [State.modifyEntry], fun _ m _ _ => ?_⟩
  simp only [State.entry, State.modifyEntry, List.getElem?_modify]
  cases s.cond.entries[m - 1]? with
  | none => rfl
  | some e =>
    simp only [Option.map_eq_map, Option.map_some, Option.getD_some]
    split
    · exact hf e
    · rfl

theorem CondEntry.active_moveTo_afterAck (e : CondEntry) (level : Nat) :
    (e.moveTo level e.state.afterAck).active = e.active := by
  unfold CondEntry.active CondEntry.moveTo
  cases e.state <;> rfl

theorem CondEntry.active_moveTo_afterReturn (e : CondEntry) (level : Nat) :
    (e.moveTo level e.state.afterReturn).active = false := by
  unfold CondEntry.active CondEntry.moveTo
  cases e.state <;> rfl

theorem State.acknowledge_alike (s : State) (n : Nat) : s.Alike (s.acknowledge n) :=
  s.modifyEntry_alike n fun e => e.active_moveTo_afterAck _

/-! ### The point map, the detector and the batches -/

theorem State.setSlot_alike (s : State) (slot : Nat) (e : Option MapEntry) : s.Alike (s.setSlot slot e) :=
  State.alike_of_blocks (hp := by simp [State.setSlot])

theorem State.mapRole_alike (s : State) (role : Role) (f : LiveRecord → LiveRecord) :
    s.Alike (s.mapRole role f) := by
  unfold State.mapRole
  split
  · exact s.setSlot_alike _ _
  · exact .refl s

theorem State.setRun_alike {r : RunNo} {x : RunUnit} (h : x.config = (s.run r).config) :
    s.Alike (s.setRun r x) := by
  refine ⟨fun q => ?_, rfl, rfl, rfl, rfl, fun _ _ _ _ => rfl⟩
  by_cases hq : q = r
  · rw [hq, State.run_setRun_self, h]
  · rw [State.run_setRun_of_ne _ _ hq]

theorem State.accept_alike {slot : Nat} (hslot : s.points.map.length = 15 → slot ≤ 15) (e : MapEntry)
    (f : Frame) (c : Acceptance) : s.Alike (s.accept slot e f c) := by
  refine (s.setSlot_alike slot _).trans ((s.accept_raised slot e f c).alike fun hs n hlow _ => ?_)
  exact State.entry_accept_of_ne (hslot ((s.setSlot_alike slot _).slots.symm.trans hs)) (by omega) e f c

theorem State.judge_alike (s : State) : s.Alike s.judge := by
  obtain ⟨d, h, -⟩ := s.judge_effect
  have hd : s.Alike (s.setDetector d) := State.alike_of_blocks
  exact hd.trans (h.alike fun _ n _ _ => State.entry_judge_of_ne (s := s) (by omega))

theorem State.followRecord_alike {slot : Nat} (hslot : s.points.map.length = 15 → slot ≤ 15)
    (before after : LiveRecord) : s.Alike (s.followRecord slot before after) := by
  have follows : ∀ (u : State) (k : CondKind) (x y : Bool), k.first ≤ 76 → s.Alike u →
      s.Alike (u.follow k slot x y) := fun u k x y hk hu => hu.trans <|
    State.follow_alike (fun hs => CondKind.apart_of_slot hk (hslot (hu.slots.symm.trans hs))) x y
  unfold State.followRecord
  exact follows _ _ _ _ (by decide) (follows _ _ _ _ (by decide) (follows _ _ _ _ (by decide) (.refl s)))

theorem State.returnLatched_alike {slot : Nat} (hslot : s.points.map.length = 15 → slot ≤ 15) :
    s.Alike (s.returnLatched slot) := by
  have returns : ∀ (u : State) (k : CondKind), k.first ≤ 76 → s.Alike u → s.Alike (u.returnCond k slot) :=
    fun u k hk hu => hu.trans <|
      State.returnCond_alike fun hs => CondKind.apart_of_slot hk (hslot (hu.slots.symm.trans hs))
  unfold State.returnLatched
  exact returns _ _ (by decide) (returns _ _ (by decide) (returns _ _ (by decide) (.refl s)))

theorem State.updateRecord_alike {slot : Nat} (hslot : s.points.map.length = 15 → slot ≤ 15) (e : MapEntry)
    (new : LiveRecord) : s.Alike (s.updateRecord slot e new) := by
  have hset := s.setSlot_alike slot (some { e with record := new })
  have hrec := hset.trans
    (State.followRecord_alike (fun hs => hslot (hset.slots.symm.trans hs)) e.record new)
  unfold State.updateRecord
  dsimp only
  split
  · exact hrec.trans (State.judge_alike _)
  · exact hrec

theorem State.followObstacles_alike (s : State) (before : Obstacles) : s.Alike (s.followObstacles before) := by
  unfold State.followObstacles
  exact (State.follow_alike (fun _ => .inr (by decide)) ..).trans
    (State.follow_alike (fun _ => .inr (by decide)) ..)

theorem State.mapActive_alike (s : State) (f : BatchEntry → BatchEntry) : s.Alike (s.mapActive f) := by
  unfold State.mapActive
  split
  · exact .refl s
  · split
    · exact .refl s
    · exact State.alike_of_blocks

theorem State.applyShift_alike (s : State) (r : RunNo) (k : SetNo) (v : Nat) : s.Alike (s.applyShift r k v) :=
  State.Alike.trans (t := s.setShift r k v) State.alike_of_blocks
    (State.mapActive_alike _ _)

theorem State.detectorAfresh_alike (s : State) : s.Alike s.detectorAfresh := by
  have afresh : ∀ u : State, u.Alike (u.setDetector .inside).judge := fun u =>
    State.Alike.trans (t := u.setDetector .inside) State.alike_of_blocks
      (State.judge_alike _)
  unfold State.detectorAfresh
  dsimp only
  split
  · exact (State.returnCond_alike fun _ => .inr (by decide)).trans (afresh _)
  · exact afresh s

theorem State.openHead_alike (s : State) : s.Alike s.openHead.state := by
  unfold State.openHead
  split
  · exact .refl s
  · next b rest _ =>
    refine State.Alike.trans (t := { s with batch := { s.batch with
      schedule := b.opened (nextSequence s.batch.counter) s.mgmt.stationTime s.mgmt.timeValid :: rest
      counter := nextSequence s.batch.counter } }) State.alike_of_blocks ?_
    exact (State.detectorAfresh_alike _).trans (State.triggerAll_triggered _ _).alike

end Sys2Proof.Machine
end

section
/-!
The operations that write a run's residues or flags, and the closes of batches and runs (R17, R52 to R54, R61,
R64, R69 to R71, R88 to R93).
-/

namespace Sys2Proof.Machine

variable {s t u : State}

/-! ### Giving a run its flags (R70) -/

theorem State.active_follow {k : CondKind} {i : Nat} {before after : Bool}
    (hlen : k.entry i - 1 < s.cond.entries.length) (hbefore : (s.entry (k.entry i)).active = before)
    (heff : after = true → before = false → s.raiseTakesEffect k = true) :
    ((s.follow k i before after).entry (k.entry i)).active = after := by
  unfold State.follow
  split
  · next h =>
    simp only [Bool.and_eq_true, Bool.not_eq_true'] at h
    rw [State.entry_raise_self (heff h.1 h.2) hlen, h.1]
    rfl
  · split
    · next h =>
      simp only [Bool.and_eq_true, Bool.not_eq_true'] at h
      rw [State.entry_returnCond_self hlen, CondEntry.active_moveTo_afterReturn, h.2]
    · next hraise hreturn =>
      have unmoved : ∀ x y : Bool, ¬(y && !x) = true → ¬(x && !y) = true → x = y := by decide
      exact hbefore.trans (unmoved before after hraise hreturn)

/-- The conditions of a run that follow its flags, kind by kind. -/
def State.followAll (s : State) (r : RunNo) (before after : RunFlags) (l : List CondKind) : State :=
  l.foldl (fun u k => u.follow k r.toNat (before.of k) (after.of k)) s

theorem State.setFlags_eq_followAll (s : State) (r : RunNo) (new : RunFlags) :
    s.setFlags r new = (s.setChain r { s.chainOf r with flags := new }).followAll r (s.chainOf r).flags new
      CondKind.latched := rfl

/-- After the kinds of a list have followed a run's flags, their entries of the run are active as the new flags
say, and every other entry of a latched condition stands as before. -/
theorem State.active_followAll {r : RunNo} {before after : RunFlags} {l : List CondKind}
    (hl : ∀ k ∈ l, k ∈ CondKind.latched) (hnd : l.Nodup) (hlen : s.cond.entries.length = 121)
    (heff : s.uncommissioned = true → after.Within before)
    (hbefore : ∀ k ∈ l, (s.entry (k.entry r.toNat)).active = before.of k) :
    ∀ k ∈ CondKind.latched, ∀ q, ((s.followAll r before after l).entry (k.entry q.toNat)).active =
      if k ∈ l ∧ q = r then after.of k else (s.entry (k.entry q.toNat)).active := by
  induction l generalizing s with
  | nil => simp [State.followAll]
  | cons a l ih =>
    obtain ⟨ha, hl⟩ := List.forall_mem_cons.1 hl
    obtain ⟨hbefore_a, hbefore⟩ := List.forall_mem_cons.1 hbefore
    obtain ⟨hal, hnd⟩ := List.nodup_cons.1 hnd
    have hraised := s.follow_raised a r.toNat (before.of a) (after.of a)
    have other : ∀ k ∈ CondKind.latched, ∀ q, ¬(k = a ∧ q = r) →
        (s.follow a r.toNat (before.of a) (after.of a)).entry (k.entry q.toNat) =
          s.entry (k.entry q.toNat) := fun k hk q hne =>
      State.entry_follow_of_ne _ _ fun h => hne (CondKind.latched_place_inj hk ha h)
    have self : ((s.follow a r.toNat (before.of a) (after.of a)).entry (a.entry r.toNat)).active =
        after.of a := by
      have := CondKind.latched_place_bounds ha r
      refine State.active_follow (by omega) hbefore_a fun hafter hclear => ?_
      rw [State.raiseTakesEffect]
      cases hd : s.uncommissioned with
      | false => rfl
      | true => exact absurd (heff hd a hafter) (by simp [hclear])
    have hrest := ih hl hnd (hraised.entries.trans hlen) (hraised.uncommissioned.symm ▸ heff)
      fun k hk => by
        rw [other k (hl k hk) r fun h => hal (h.1 ▸ hk)]
        exact hbefore k hk
    intro k hk q
    refine (hrest k hk q).trans ?_
    by_cases hkq : k = a ∧ q = r
    · obtain ⟨rfl, rfl⟩ := hkq
      simp [hal, self]
    · rw [other k hk q hkq]
      by_cases hq : q = r
      · simp only [hq, and_true] at hkq ⊢
        simp [hkq]
      · simp [hq]

theorem State.chainOf_setFlags (s : State) (r : RunNo) (new : RunFlags) (q : RunNo) :
    (s.setFlags r new).chainOf q = if q = r then { s.chainOf r with flags := new } else s.chainOf q := by
  rw [State.chainOf, State.setFlags_chain]
  split
  · next hq => rw [hq, Four.get_set_self]
  · next hq => exact Four.get_set_of_ne _ _ hq

theorem State.active_setFlags {r : RunNo} {new : RunFlags} (hlen : s.cond.entries.length = 121)
    (h : s.uncommissioned = true → new.Within (s.chainOf r).flags)
    (hbefore : ∀ k ∈ CondKind.latched, (s.entry (k.entry r.toNat)).active = (s.chainOf r).flags.of k)
    {k : CondKind} (hk : k ∈ CondKind.latched) (q : RunNo) :
    ((s.setFlags r new).entry (k.entry q.toNat)).active =
      if q = r then new.of k else (s.entry (k.entry q.toNat)).active := by
  have hall := State.active_followAll (s := s.setChain r { s.chainOf r with flags := new })
    (fun _ => id) (by decide) hlen h hbefore k hk q
  simp only [hk, true_and] at hall
  exact hall

/-- A run's flags change with the invariants kept where an UNCOMMISSIONED part sets none (R71, R145). -/
theorem State.setFlags_keeps {r : RunNo} {new : RunFlags}
    (h : s.uncommissioned = true → new.Within (s.chainOf r).flags) : s.Keeps (s.setFlags r new) := by
  have hraised := s.setFlags_raised r new
  refine ⟨fun hs => State.residuesBelow_iff.2 fun q => ?_, fun hs hd q => ?_, fun hs => ?_⟩
  · have hrun : (s.setFlags r new).run q = s.run q := congrArg (·.get q) hraised.runs
    obtain ⟨hk, hbelow⟩ := State.residuesBelow_iff.1 hs q
    rw [hrun, State.chainOf_setFlags]
    refine ⟨hk, ?_⟩
    split
    · next hq =>
      subst hq
      exact ⟨hbelow.iv, hbelow.gsv, hbelow.nsv, hbelow.mass⟩
    · exact hbelow
  · have hdevice : s.mgmt.device = .uncommissioned := by
      rw [hraised.mgmt] at hd
      exact hd
    rw [State.chainOf_setFlags]
    split
    · have hwithin := h (by simp [State.uncommissioned, hdevice])
      rw [hs hdevice r] at hwithin
      exact hwithin.eq_clear
    · exact hs hdevice q
  · obtain ⟨hw, hactive⟩ := State.conditionsFollow_iff.1 hs
    refine State.conditionsFollow_iff.2
      ⟨⟨by rw [hraised.points]; exact hw.slots, hraised.entries.trans hw.entries⟩, fun k hk q => ?_⟩
    rw [State.active_setFlags hw.entries h (fun k hk => hactive k hk r) hk q, State.chainOf_setFlags]
    split
    · rfl
    · exact hactive k hk q

theorem State.clearMeteringFlags_keeps (s : State) (r : RunNo) : s.Keeps (s.clearMeteringFlags r) :=
  State.setFlags_keeps fun _ => RunFlags.clearMetering_within _

/-! ### Residues and K-factors (R17, R61, R62) -/

/-- A run's chain record is replaced by one with its flags and with residues below their divisors. -/
theorem State.setChain_keeps {r : RunNo} {c : ChainRecord} (hflags : c.flags = (s.chainOf r).flags)
    (hbelow : s.ResiduesBelow → c.Below (s.run r).config.kmilli) : s.Keeps (s.setChain r c) := by
  have hof : ∀ q, ((s.setChain r c).chainOf q).flags = (s.chainOf q).flags := fun q => by
    by_cases hq : q = r
    · rw [hq, State.chainOf_setChain_self, hflags]
    · rw [State.chainOf_setChain_of_ne _ _ hq]
  refine ⟨fun hs => State.residuesBelow_iff.2 fun q => ?_, fun hs hd q => (hof q).trans (hs hd q), fun hs => ?_⟩
  · refine ⟨(State.residuesBelow_iff.1 hs q).1, ?_⟩
    by_cases hq : q = r
    · rw [hq, State.chainOf_setChain_self]
      exact hbelow hs
    · rw [State.chainOf_setChain_of_ne _ _ hq]
      exact (State.residuesBelow_iff.1 hs q).2
  · obtain ⟨hw, hactive⟩ := State.conditionsFollow_iff.1 hs
    exact State.conditionsFollow_iff.2 ⟨⟨hw.slots, hw.entries⟩, fun k hk q => by
      rw [hof]
      exact hactive k hk q⟩

/-- A run takes a K-factor of at least 1,000 above its IV residue. -/
theorem State.setRun_keeps {r : RunNo} {x : RunUnit}
    (h : s.ResiduesBelow → (∀ k, x.config.kmilli = some k → 1000 ≤ k ∧ (s.chainOf r).ivRes < k)) :
    s.Keeps (s.setRun r x) := by
  refine ⟨fun hs => State.residuesBelow_iff.2 fun q => ?_, fun hs => hs, fun hs => ?_⟩
  · by_cases hq : q = r
    · subst hq
      rw [State.run_setRun_self]
      exact ⟨fun k hk => (h hs k hk).1, fun k hk => (h hs k hk).2, hs.gsv q, hs.nsv q, hs.mass q⟩
    · rw [State.run_setRun_of_ne _ _ hq]
      exact State.residuesBelow_iff.1 hs q
  · obtain ⟨hw, hactive⟩ := State.conditionsFollow_iff.1 hs
    exact State.conditionsFollow_iff.2 ⟨⟨hw.slots, hw.entries⟩, hactive⟩

theorem ChainRecord.carry_flags (c : ChainRecord) (kmilli pulses ccf water rho : Nat) :
    (c.carry kmilli pulses ccf water rho).flags = c.flags := by
  rw [ChainRecord.carry]

/-- The residues that a booked frame carries are remainders of the four divisions (R61). -/
theorem ChainRecord.carry_below (c : ChainRecord) {kmilli : Nat} (hk : 0 < kmilli)
    (pulses ccf water rho : Nat) : (c.carry kmilli pulses ccf water rho).Below (some kmilli) :=
  ⟨fun k h => Option.some.inj h ▸ Nat.mod_lt _ hk, Nat.mod_lt _ (by decide), Nat.mod_lt _ (by decide),
    Nat.mod_lt _ (by decide)⟩

/-! ### The device state and the end of a decommission (R71, R93, R178, R179) -/

/-- The device leaves UNCOMMISSIONED, or stays out of it. -/
theorem State.setDevice_keeps (s : State) {d : Device} (hd : d ≠ .uncommissioned) :
    s.Keeps { s with mgmt := { s.mgmt with device := d } } :=
  ⟨fun hs => { hs with }, fun _ h => absurd h hd, fun hs => { hs with slots := hs.slots }⟩

/-- The flags of some runs are cleared. -/
def State.clearFlags (s : State) (l : List RunNo) : State := l.foldl (fun s r => s.setFlags r .clear) s

theorem State.clearFlags_keeps (s : State) (l : List RunNo) : s.Keeps (s.clearFlags l) := by
  induction l generalizing s with
  | nil => exact .refl s
  | cons r l ih => exact (State.setFlags_keeps fun _ => RunFlags.clear_within _).trans (ih _)

theorem State.clearFlags_of_clear {r : RunNo} (l : List RunNo) (h : (s.chainOf r).flags = .clear) :
    ((s.clearFlags l).chainOf r).flags = .clear := by
  induction l generalizing s with
  | nil => exact h
  | cons q l ih =>
    refine ih ?_
    rw [State.chainOf_setFlags]
    split
    · rfl
    · exact h

theorem State.clearFlags_of_mem {r : RunNo} {l : List RunNo} (h : r ∈ l) :
    ((s.clearFlags l).chainOf r).flags = .clear := by
  induction l generalizing s with
  | nil => cases h
  | cons q l ih =>
    obtain rfl | hmem := List.mem_cons.1 h
    · refine State.clearFlags_of_clear l ?_
      rw [State.chainOf_setFlags, if_pos rfl]
    · exact ih hmem

/-- The device becomes UNCOMMISSIONED and every run's flags are cleared at once (R71). -/
theorem State.uncommission_keeps (s : State) :
    s.Keeps (State.clearFlags { s with mgmt := { s.mgmt with device := .uncommissioned } } Num4.all) := by
  have hclear := State.clearFlags_keeps { s with mgmt := { s.mgmt with device := .uncommissioned } } Num4.all
  exact ⟨fun hs => hclear.residues { hs with }, fun _ _ r => State.clearFlags_of_mem r.mem_all,
    fun hs => hclear.conditions { hs with slots := hs.slots }⟩

theorem State.decommissionComplete_keeps (s : State) : s.Keeps s.decommissionComplete.state := by
  unfold State.decommissionComplete
  dsimp only [Work.andThen, Work.map, Work.note, Work.setDevice, State.work]
  have hs := s.uncommission_keeps.trans
    ((State.detectorAfresh_alike _).trans (State.triggerAll_triggered _ .batchChange).alike).keeps
  split
  · exact hs.trans (State.endProve_proved ..).alike.keeps
  · exact hs

/-! ### Closes of batches (R88 to R93) -/

theorem State.completeClose_keeps (s : State) (cause : CloseCause) (mark : Bool) :
    s.Keeps (s.completeClose cause mark).state := by
  unfold State.completeClose
  split
  · exact .refl s
  · next a rest _ =>
    have hticket : s.Alike ({ s with tickets := s.tickets ++ [s.makeTicket a cause] }.setSchedule rest) :=
      State.alike_of_blocks
    have hreturned := hticket.trans ((State.returnCond_alike (k := .overTarget) (i := 1) fun _ =>
      .inr (by decide)).trans (State.returnCond_alike (k := .ticketStoreFull) (i := 1) fun _ => .inr (by decide)))
    have succeeds : ∀ (v : State) (k : SetNo), v.Alike (v.openHead.state.gradeCheck k).state := fun v k =>
      v.openHead_alike.trans (State.gradeCheck_proved _ k).alike
    dsimp only [Work.andThen, Work.map, Work.note, State.work]
    split
    · exact hreturned.keeps.trans (State.decommissionComplete_keeps _)
    · split
      · have hsched : ∀ (v : State) (l : List BatchEntry), v.Alike (v.setSchedule l) := fun _ _ =>
          State.alike_of_blocks
        exact ((hreturned.trans (hsched _ _)).trans (succeeds _ _)).keeps
      · exact (hreturned.trans (succeeds _ _)).keeps

theorem State.beginClose_keeps (s : State) (cause : CloseCause) : s.Keeps (s.beginClose cause).work.state := by
  unfold State.beginClose
  split
  · exact .refl s
  · split
    · exact .refl s
    · dsimp only
      split
      · exact s.completeClose_keeps ..
      · exact ((s.mapActive_alike _).trans (State.followObstacles_alike _ _)).keeps

theorem State.retestClose_keeps (s : State) (before : Obstacles) :
    s.Keeps (s.retestClose before).work.state := by
  unfold State.retestClose
  split
  · exact .refl s
  · split
    · exact .refl s
    · split
      · exact s.completeClose_keeps ..
      · exact (s.followObstacles_alike _).keeps

theorem State.targetCheck_keeps (s : State) : s.Keeps s.targetCheck.state := by
  unfold State.targetCheck
  split
  · exact .refl s
  · split
    · exact .refl s
    · split
      · exact s.beginClose_keeps _
      · exact .refl s

theorem State.decommissionClose_keeps (s : State) : s.Keeps s.decommissionClose.work.state := by
  unfold State.decommissionClose
  split
  · exact s.beginClose_keeps _
  · exact (s.mapActive_alike _).keeps.trans (State.retestClose_keeps _ _)

/-! ### Closes of runs (R22, R69) -/

theorem State.closeRun_keeps (s : State) (r : RunNo) : s.Keeps (s.closeRun r).state := by
  unfold State.closeRun
  dsimp only
  have hclosed := (State.setRun_alike (s := s) (r := r) (x := { s.run r with
    state := .closed, closePending := false, closeTimer := none }) rfl).keeps.trans
    (State.clearMeteringFlags_keeps _ r)
  split
  · exact hclosed.trans (State.endProve_proved ..).alike.keeps
  · exact hclosed

theorem State.endOfFrame_keeps (s : State) (r : RunNo) : s.Keeps (s.endOfFrame r).state := by
  unfold State.endOfFrame
  split
  · exact s.closeRun_keeps r
  · exact .refl s

/-! ### PULSE_FRAME (R49 to R69) -/

theorem State.unbookedFrame_keeps (s : State) (r : RunNo) (d : Counts) : s.Keeps (s.unbookedFrame r d) := by
  have hrun := State.setRun_alike (s := s) (r := r)
    (x := { s.run r with unbooked := addPulses (s.run r).unbooked d.a }) rfl
  unfold State.unbookedFrame
  dsimp only
  split
  · next h =>
    simp only [Bool.and_eq_true, Bool.not_eq_true'] at h
    exact hrun.keeps.trans (State.setFlags_keeps fun hd => absurd hd (by simp [h.2]))
  · exact hrun.keeps

theorem State.cutoffFrame_keeps (s : State) (r : RunNo) (d : Counts) : s.Keeps (s.cutoffFrame r d) :=
  (State.setRun_alike (s := s) (r := r) (x := { s.run r with
    cutoffPulses := addPulses (s.run r).cutoffPulses d.a, state := .idle }) rfl).keeps.trans
    (State.clearMeteringFlags_keeps _ r)

/-- A run carries its residues at its K-factor (R61). -/
theorem State.carry_keeps {r : RunNo} {k : Nat} (hk : (s.run r).config.kmilli = some k) {c : ChainRecord}
    (hc : s.chainOf r = c) (pulses ccf water rho : Nat) (factors : Option Factors) (deg : Bool) :
    s.Keeps (s.setChain r
      { c.carry k pulses ccf water rho with lastFactors := factors, lastDegraded := deg }) := by
  refine State.setChain_keeps ((c.carry_flags k pulses ccf water rho).trans (hc ▸ rfl)) fun hs => ?_
  have hpos : 0 < k := Nat.lt_of_lt_of_le (by decide) (hs.kmilli r k hk)
  have hcarry := c.carry_below hpos pulses ccf water rho
  rw [hk]
  exact ⟨hcarry.iv, hcarry.gsv, hcarry.nsv, hcarry.mass⟩

/-- A frame is booked at its run's K-factor, while a batch is active: its flags may be set, and its residues are
carried (R61, R64, R70). -/
theorem State.bookFrame_keeps {r : RunNo} {b : BatchEntry} {k : Nat} (hb : s.activeBatch = some b)
    (hk : (s.run r).config.kmilli = some k) (rate : Rate) (d : Counts) :
    s.Keeps (s.bookFrame r b k rate d).state := by
  have hcommissioned : s.uncommissioned = false := (State.activeBatch_eq_some.1 hb).1
  unfold State.bookFrame
  extract_lets old s1 unit inp x s2 c water i deg s3 s4 carried s5
  have h1 : s.Alike s1 := State.setRun_alike rfl
  have h2 : s1.Keeps s2 := State.setFlags_keeps fun hd =>
    absurd (h1.uncommissioned.symm.trans hd) (by simp [hcommissioned])
  have h4 : s2.Alike s4 :=
    State.Alike.trans (t := s3) State.alike_of_blocks (State.mapActive_alike _ _)
  have hrun : (s4.run r).config.kmilli = some k := by
    have h2run : s2.run r = s1.run r := congrArg (·.get r) (s1.setFlags_raised r _).runs
    rw [h4.config, h2run, h1.config, hk]
  have h5 : s4.Keeps s5 := State.carry_keeps hrun (h4.chainOf r) ..
  exact (((h1.keeps.trans h2).trans h4.keeps).trans h5).trans (State.targetCheck_keeps _)

theorem State.decideFrame_keeps {r : RunNo} {k : Nat} (hk : (s.run r).config.kmilli = some k) (d : Counts)
    (rate : Rate) : s.Keeps (s.decideFrame r d k rate).state := by
  unfold State.decideFrame
  dsimp only
  split
  · exact s.unbookedFrame_keeps r d
  · split
    · exact s.unbookedFrame_keeps r d
    · next hb =>
      split
      · exact s.cutoffFrame_keeps r d
      · exact State.bookFrame_keeps hb hk rate d

theorem State.plausibleFrame_keeps (s : State) (r : RunNo) (d : Counts) :
    s.Keeps (s.plausibleFrame r d).state := by
  unfold State.plausibleFrame
  split
  · exact (s.unbookedFrame_keeps r d).trans (State.endOfFrame_keeps _ r)
  · next k hk =>
    have hrate : s.Keeps (s.setChain r { s.chainOf r with lastRate := some (formRate k d).q }) :=
      State.setChain_keeps rfl fun hs =>
        have hbelow := (State.residuesBelow_iff.1 hs r).2
        ⟨hbelow.iv, hbelow.gsv, hbelow.nsv, hbelow.mass⟩
    have hdecide := State.decideFrame_keeps
      (s := s.setChain r { s.chainOf r with lastRate := some (formRate k d).q }) hk d (formRate k d)
    exact ((hrate.trans hdecide).trans
      (State.reportHandOff_triggered _ r).alike.keeps).trans (State.endOfFrame_keeps _ r)

theorem usePulse_keeps (f : Frame) {slot : Nat} (e : MapEntry) (c : Acceptance)
    (hslot : s.points.map.length = 15 → slot ≤ 15) : s.Keeps (usePulse f slot e c s).state := by
  unfold usePulse
  split
  · next r _ =>
    dsimp only
    split
    · exact (s.setSlot_alike _ _).keeps.trans (State.endOfFrame_keeps _ r)
    · split
      · have himplausible : s.Alike (s.occur .frameImplausible slot) :=
          State.occur_alike fun hs => CondKind.apart_of_slot (by decide) (hslot hs)
        exact himplausible.keeps.trans (State.endOfFrame_keeps _ r)
      · exact (s.setSlot_alike _ _).keeps.trans (State.plausibleFrame_keeps _ r _)
  all_goals exact .refl s

end Sys2Proof.Machine
end

section
/-!
The invariants of the measurement at the sample frames and the requests (R2, R3, R17, R103, R151, R178 to R180).
-/

namespace Sys2Proof.Machine

variable {s t : State}

/-! ### Sample frames -/

theorem State.Keeps.finish {w : Work} (h : s.Keeps w.state) : s.Keeps w.finish :=
  h.trans w.finish_noted.alike.keeps

theorem State.popHead_alike (s : State) : s.Alike s.popHead := State.alike_of_blocks

theorem State.passTo_alike (s : State) (count : Nat) : s.Alike (s.passTo count) := State.alike_of_blocks

theorem State.appendForward_alike (s : State) (f : Frame) : s.Alike (s.appendForward f) :=
  State.alike_of_blocks

/-- A point found in one of fifteen slots stands in a slot up to 15. -/
theorem State.slotEntry_le {slot : Nat} {e : MapEntry} (h : s.slotEntry slot = some e)
    (hs : s.points.map.length = 15) : slot ≤ 15 := hs ▸ (State.slotEntry_bounds h).2

theorem useValue_alike (f : Frame) {slot : Nat} (e : MapEntry) (c : Acceptance)
    (hslot : s.points.map.length = 15 → slot ≤ 15) : s.Alike (useValue f slot e c s).state := by
  unfold useValue
  split
  · exact .refl s
  · next c _ =>
    split
    · have hu := State.updateRecord_alike hslot e (s.takeValue c e.role e.record (intAt 4 4 f.payload))
      dsimp only [State.work]
      split
      · exact hu.trans (State.densityHandOff_triggered _ _).alike
      · exact hu
    · exact State.updateRecord_alike hslot e _

theorem State.setProve_alike (s : State) (r : RunNo) (p : ProveRecord) : s.Alike (s.setProve r p) :=
  State.alike_of_blocks

theorem State.completeProve_alike (s : State) (r : RunNo) (k : SetNo) (rho count : Nat) (c : ProverConfig)
    (w : List PassRecord) : s.Alike (s.completeProve r k rho count c w).state := by
  unfold State.completeProve
  extract_lets x deviation x' p waiting s'
  generalize x = y
  split
  · exact (s.endProve_proved ..).alike
  · split
    · exact (s.applyShift_alike ..).trans (State.endProve_proved ..).alike
    · exact (s.setProve_alike ..).trans (State.tryHead_proved _).alike

theorem State.takePass_alike (s : State) (r : RunNo) (c : ProverConfig) (previous : Option Nat) (p : Pass) :
    s.Alike (s.takePass r c previous p).state := by
  unfold State.takePass
  split
  · dsimp only
    split
    · exact (s.setProve_alike ..).trans (State.completeProve_alike ..)
    · split
      · exact (s.setProve_alike ..).trans (State.endProve_proved ..).alike
      · exact s.setProve_alike ..
  all_goals exact .refl s

theorem usePass_alike (f : Frame) (slot : Nat) (e : MapEntry) (c : Acceptance) (s : State) :
    s.Alike (usePass f slot e c s).state := by
  unfold usePass State.handPass
  dsimp only
  split
  · exact (s.setSlot_alike ..).trans (State.takePass_alike ..)
  · exact (s.setSlot_alike ..).trans (State.occur_alike fun _ => .inr (by decide))

/-- A sample frame, own-node or broadcast, keeps the invariants where its use does. -/
theorem dispatchSample_keeps (kind : Byte) {use : Frame → Nat → MapEntry → Acceptance → State → Work}
    (huse : ∀ f {slot} e c {s : State}, (s.points.map.length = 15 → slot ≤ 15) →
      s.Keeps (use f slot e c s).state) (s : State) : s.Keeps (s.dispatchSample kind use) := by
  have unmapped : s.popHead.Alike (s.popHead.occur .unmappedPoint 1) :=
    State.occur_alike fun _ => .inr (by decide)
  have point : ∀ {slot : Nat} {e : MapEntry} (f : Frame) (e' : MapEntry) (c : Acceptance),
      s.slotEntry slot = some e → s.Keeps (use f slot e' c (s.popHead.accept slot e f c)).finish :=
    fun {slot e} f e' c he => by
      have hslot : s.points.map.length = 15 → slot ≤ 15 := State.slotEntry_le he
      have haccept := s.popHead_alike.trans (State.accept_alike (s := s.popHead) hslot e f c)
      exact (haccept.keeps.trans (huse f e' c fun hs => hslot (haccept.slots.symm.trans hs))).finish
  unfold State.dispatchSample State.whenRunning
  split
  · exact .refl s
  · dsimp only
    split
    · exact .refl s
    · next f rest _ =>
      split
      · split
        · split
          · next he =>
            split
            · exact s.popHead_alike.keeps
            · exact point f _ _ (State.sampleEntry_eq_some he).1
          · exact (s.popHead_alike.trans unmapped).keeps
        · split
          · split
            · next he =>
              split
              · exact (s.popHead_alike.trans (State.appendForward_alike _ f)).keeps
              · exact (point f _ _ (State.sampleEntry_eq_some he).1).trans
                  (State.appendForward_alike _ f).keeps
            · exact (s.popHead_alike.trans (State.appendForward_alike _ f)).keeps
          · exact .refl s
      · exact .refl s

/-! ### Requests -/

theorem State.Keeps.answerDone (h : s.Keeps t) (p : List Byte) : s.Keeps (t.answerDone p).work.state := h

theorem Answer.conclude_keeps {a : Answer} (h : s.Keeps a.work.state) (f : Frame) : s.Keeps (a.conclude f) :=
  h.finish.trans (State.Alike.keeps State.alike_of_blocks)

theorem State.whenRunning_keeps {event : State → State} (h : s.Keeps (event s)) :
    s.Keeps (s.whenRunning event) := by
  unfold State.whenRunning
  split
  · exact .refl s
  · exact h

theorem dispatchRequest_keeps {takes : Frame → Bool} {owner : Frame → State → Answer}
    (ho : ∀ f (s : State), s.Keeps (owner f s).work.state) (s : State) : s.Keeps (s.dispatchRequest takes owner) := by
  refine State.whenRunning_keeps ?_
  split
  · next f _ =>
    split
    · exact Answer.conclude_keeps (s.popHead_alike.keeps.trans (ho f _)) f
    · exact .refl s
  · exact .refl s

theorem request_keeps (k : Nat) {owner : List Byte → State → Answer}
    (ho : ∀ p (s : State), s.Keeps (owner p s).work.state) (s : State) : s.Keeps (s.request k owner) :=
  dispatchRequest_keeps (fun f s => by
    split
    · exact ho f.params s
    · exact .refl s) s

theorem setRunService_keeps (d o : Nat) {owner : RunNo → State → Answer}
    (ho : ∀ r (s : State), s.Keeps (owner r s).work.state) (s : State) : s.Keeps (s.setRunService d o owner) :=
  dispatchRequest_keeps (fun f s => by
    split
    · exact .refl s
    · split
      · exact .refl s
      · split
        · exact ho _ s
        · exact .refl s) s

/-- An owner that leaves the state keeps the invariants. -/
theorem keeps_of_state_eq {owner : List Byte → State → Answer} (h : ∀ p s, (owner p s).work.state = s)
    (p : List Byte) (s : State) : s.Keeps (owner p s).work.state := (h p s).symm ▸ .refl s

/-! ### Requests to the Point Unit and the Run Units -/

theorem State.freeSlot_le {slot : Nat} (h : s.freeSlot = some slot) : slot ≤ s.points.map.length := by
  obtain ⟨⟨e, n⟩, hfind, rfl⟩ := Option.map_eq_some_iff.1 h
  obtain ⟨-, hget⟩ := List.mem_zipIdx_iff_le_and_getElem?_sub.1 (List.mem_of_find?_eq_some hfind)
  obtain ⟨hlt, -⟩ := List.getElem?_eq_some_iff.1 hget
  omega

/-- A slot takes or loses its point: its conditions return, and the detector judges (R2, R3). -/
theorem State.remapped_alike {slot : Nat} (hslot : s.points.map.length = 15 → slot ≤ 15)
    (e : Option MapEntry) : s.Alike ((s.setSlot slot e).returnLatched slot).judge := by
  have hset := s.setSlot_alike slot e
  exact (hset.trans (State.returnLatched_alike fun hs => hslot (hset.slots.symm.trans hs))).trans
    (State.judge_alike _)

theorem mapPointRequest_keeps (p : List Byte) (s : State) : s.Keeps (mapPointRequest p s).work.state := by
  have refused : ∀ r, s.Keeps (s.refuse r).work.state := fun _ => .refl s
  unfold mapPointRequest
  dsimp only
  split
  · exact refused _
  · next role _ =>
    have maps : ∀ {slot : Nat}, slot ≤ s.points.map.length → ∀ id,
        s.Keeps ((s.mapSlot slot id role).answerDone (byte slot)).work.state := fun h id =>
      (State.remapped_alike (fun hs => hs ▸ h) _).keeps
    split
    · exact refused _
    · split
      · next slot e he =>
        split
        · exact refused _
        · split
          · exact refused _
          · split
            · exact .refl s
            · exact maps (State.slotEntry_bounds (State.findPoint_eq_some he)).2 _
      · split
        · exact refused _
        · split
          · exact refused _
          · split
            · next hslot => exact maps (State.freeSlot_le hslot) _
            · exact refused _

theorem unmapPointRequest_keeps (p : List Byte) (s : State) : s.Keeps (unmapPointRequest p s).work.state := by
  unfold unmapPointRequest
  split
  · exact .refl s
  · next slot e he =>
    split
    · exact .refl s
    · exact (State.remapped_alike (State.slotEntry_le (State.findPoint_eq_some he)) none).keeps

/-- A configuration in range has a K-factor, of at least 1,000 (R17). -/
theorem RunConfig.kmilli_of_inRange {c : RunConfig} (h : c.inRange = true) {k : Nat} (hk : c.kmilli = some k) :
    1000 ≤ k := by
  simp only [RunConfig.inRange, Bool.and_eq_true, hk, Option.getD_some, within, decide_eq_true_eq] at h
  obtain ⟨⟨⟨⟨⟨⟨⟨⟨⟨⟨⟨⟨⟨hrange, -⟩, -⟩, -⟩, -⟩, -⟩, -⟩, -⟩, -⟩, -⟩, -⟩, -⟩, -⟩, -⟩ := h
  exact hrange.1

/-- A run takes a configuration in range; a K-factor that changes zeroes its IV residue (R17). -/
theorem State.withRunConfig_keeps (r : RunNo) {c : RunConfig} (hin : c.inRange = true) :
    s.Keeps (s.withRunConfig r c) := by
  set ivRes := if (s.run r).configured = true ∧ (s.run r).config.kmilli = c.kmilli
    then (s.chainOf r).ivRes else 0 with hiv
  have hchain : s.Keeps (s.setChain r { s.chainOf r with ivRes := ivRes }) := by
    refine State.setChain_keeps rfl fun hs => ⟨fun k hk => ?_, hs.gsv r, hs.nsv r, hs.mass r⟩
    have hold := hs.iv r k hk
    have hpos := hs.kmilli r k hk
    simp only [hiv]
    split <;> omega
  refine hchain.trans (State.setRun_keeps (x := { s.run r with config := c, configured := true }) ?_)
  refine fun hs k hk => ⟨RunConfig.kmilli_of_inRange hin hk, ?_⟩
  have hk1000 := RunConfig.kmilli_of_inRange hin hk
  rw [State.chainOf_setChain_self]
  simp only [hiv]
  split
  · next h =>
    have hres := hs.iv r k (h.2.trans hk)
    rw [State.chainOf_setChain_self] at hres
    simpa only [hiv, if_pos h] using hres
  · omega

theorem configureRunRequest_keeps (p : List Byte) (s : State) :
    s.Keeps (configureRunRequest p s).work.state := by
  cases hr : runAt 0 p with
  | none =>
    simp only [configureRunRequest, hr]
    exact .refl s
  | some r =>
    by_cases hclosed : (s.run r).state = .closed
    · by_cases hin : (runConfigOf p).inRange = true
      · rw [configureRunRequest_accepted hr hclosed hin]
        exact ((State.withRunConfig_keeps r hin).trans
          ((State.mapRole_alike _ _ _).trans (State.mapRole_alike _ _ _)).keeps).answerDone _
      · simp only [configureRunRequest, hr, hclosed, hin]
        exact .refl s
    · simp only [configureRunRequest, hr, ne_eq, hclosed, not_false_eq_true, if_true]
      exact .refl s

theorem configureHeaderRequest_keeps (p : List Byte) (s : State) :
    s.Keeps (configureHeaderRequest p s).work.state := by
  unfold configureHeaderRequest
  dsimp only
  split
  · exact .refl s
  · split
    · exact .refl s
    · have hheader : s.Alike { s with points := { s.points with header := headerConfigOf p } } :=
        State.alike_of_blocks
      exact (hheader.trans (State.mapRole_alike _ _ _)).keeps.answerDone _

theorem openRun_keeps (r : RunNo) (s : State) : s.Keeps (openRun r s).work.state := by
  have hopen : s.Alike (s.setRun r { s.run r with state := .idle }) := State.setRun_alike rfl
  unfold openRun
  dsimp only
  split
  · split
    · exact (hopen.keeps.trans (State.setFlags_keeps fun _ => RunFlags.clearFlowing_within _)).answerDone _
    · exact .refl s
  all_goals exact (State.setRun_alike (by rfl)).keeps.answerDone _

theorem closeRunRequest_keeps (r : RunNo) (s : State) : s.Keeps (closeRunRequest r s).work.state := by
  unfold closeRunRequest
  dsimp only
  split
  · exact .refl s
  · exact .refl s
  · exact .refl s
  · exact s.closeRun_keeps r
  · exact State.Keeps.answerDone (State.setRun_alike (by rfl)).keeps []

/-! ### Requests to the Table Store, the Totalizer Bank and the Ticket Store -/

theorem State.setTable_alike (s : State) (k : SetNo) (x : TableSet) : s.Alike (s.setTable k x) :=
  State.alike_of_blocks

theorem State.resetShifts_alike (s : State) (k : SetNo) : s.Alike (s.resetShifts k) := State.alike_of_blocks

theorem beginLoadRequest_keeps (p : List Byte) (s : State) : s.Keeps (beginLoadRequest p s).work.state := by
  unfold beginLoadRequest
  dsimp only
  split
  · exact .refl s
  · split
    · exact .refl s
    · split
      · exact .refl s
      · exact ((s.setTable_alike _ _).trans (State.resetShifts_alike _ _)).keeps

theorem loadSegmentRequest_keeps (p : List Byte) (s : State) :
    s.Keeps (loadSegmentRequest p s).work.state := by
  unfold loadSegmentRequest
  split
  · exact .refl s
  · split
    · split
      · exact (s.setTable_alike _ _).keeps
      · exact .refl s
    · exact .refl s

theorem commitSetRequest_keeps (p : List Byte) (s : State) : s.Keeps (commitSetRequest p s).work.state := by
  unfold commitSetRequest
  dsimp only
  split
  · exact .refl s
  · split
    · exact .refl s
    · split
      · exact .refl s
      · split
        · exact .refl s
        · split
          · exact .refl s
          · exact (s.setTable_alike _ _).keeps

theorem discardSetRequest_keeps (p : List Byte) (s : State) : s.Keeps (discardSetRequest p s).work.state := by
  unfold discardSetRequest
  split
  · exact .refl s
  · split
    · exact .refl s
    · exact ((s.setTable_alike _ _).trans (State.resetShifts_alike _ _)).keeps

/-- The four residues of a run are zeroed, below every K-factor (R103). -/
theorem seedTotalsRequest_keeps (p : List Byte) (s : State) : s.Keeps (seedTotalsRequest p s).work.state := by
  unfold seedTotalsRequest
  dsimp only
  split
  · exact .refl s
  · next r _ =>
    split
    · exact .refl s
    · split
      · exact .refl s
      · have hzero : s.Keeps (s.setChain r (s.chainOf r).zeroResidues) :=
          State.setChain_keeps rfl fun hs =>
            ⟨fun k hk => Nat.lt_of_lt_of_le (Nat.zero_lt_succ 999) (hs.kmilli r k hk), Nat.zero_lt_succ _,
              Nat.zero_lt_succ _, Nat.zero_lt_succ _⟩
        exact hzero.trans (State.Alike.keeps State.alike_of_blocks)

theorem releaseTicketRequest_keeps (p : List Byte) (s : State) :
    s.Keeps (releaseTicketRequest p s).work.state := by
  unfold releaseTicketRequest
  dsimp only
  split
  · exact .refl s
  · next x rest _ =>
    split
    · have hreleased : s.Alike { s with tickets := rest } := State.alike_of_blocks
      exact hreleased.keeps.trans (State.retestClose_keeps _ _)
    · split <;> exact .refl s

/-! ### Requests to the Batch Unit -/

theorem State.setSchedule_alike (s : State) (l : List BatchEntry) : s.Alike (s.setSchedule l) :=
  State.alike_of_blocks

theorem queueBatchRequest_keeps (p : List Byte) (s : State) : s.Keeps (queueBatchRequest p s).work.state := by
  unfold queueBatchRequest
  dsimp only
  split
  · split
    · exact .refl s
    · split
      · exact .refl s
      · split
        · exact .refl s
        · exact (s.setSchedule_alike _).keeps.trans (State.retestClose_keeps _ _)
  · exact .refl s

theorem cancelBatchRequest_keeps (p : List Byte) (s : State) :
    s.Keeps (cancelBatchRequest p s).work.state := by
  unfold cancelBatchRequest
  split
  · exact .refl s
  · split
    · exact .refl s
    · exact ((s.setSchedule_alike _).trans (State.followObstacles_alike _ _)).keeps

theorem amendTargetRequest_keeps (p : List Byte) (s : State) :
    s.Keeps (amendTargetRequest p s).work.state := by
  unfold amendTargetRequest
  dsimp only
  split
  · exact .refl s
  · split
    · exact .refl s
    · next i _ =>
      have hamended := s.setSchedule_alike
        (s.batch.schedule.modify i fun b => { b with target := optionalAt 4 4 p })
      split
      · exact hamended.keeps
      · split
        · exact .refl s
        · split
          · split
            · split
              · exact hamended.keeps.trans (State.beginClose_keeps _ _)
              · exact hamended.keeps.trans (State.beginClose_keeps _ _)
            · exact hamended.keeps
          · exact hamended.keeps

theorem closeBatchRequest_keeps (p : List Byte) (s : State) : s.Keeps (closeBatchRequest p s).work.state := by
  unfold closeBatchRequest
  split
  · exact .refl s
  · split
    · rw [CloseStep.answer_state]
      exact s.beginClose_keeps _
    · split
      · rw [CloseStep.answer_state]
        exact (s.mapActive_alike _).keeps.trans (State.retestClose_keeps _ _)
      · exact .refl s

/-! ### Requests to the Prover Unit -/

theorem configureProverRequest_keeps (p : List Byte) (s : State) :
    s.Keeps (configureProverRequest p s).work.state := by
  unfold configureProverRequest
  dsimp only
  split
  · exact .refl s
  · split
    · exact .refl s
    · exact State.Alike.keeps State.alike_of_blocks

theorem requestProveRequest_keeps (p : List Byte) (s : State) :
    s.Keeps (requestProveRequest p s).work.state := by
  unfold requestProveRequest
  split
  · exact .refl s
  · next r _ =>
    split
    · exact .refl s
    · split
      · exact .refl s
      · have hqueued : s.Alike ((s.setProveQueue (s.prover.queue ++ [r])).setProve r
            { s.prove r with state := .queued }) := State.alike_of_blocks
        exact (hqueued.trans (State.tryHead_proved _).alike).keeps

theorem cancelProveRequest_keeps (p : List Byte) (s : State) :
    s.Keeps (cancelProveRequest p s).work.state := by
  unfold cancelProveRequest
  split
  · exact .refl s
  · split
    · exact .refl s
    · exact .refl s
    · exact (s.endProve_proved ..).alike.keeps
    · exact (s.endProve_proved ..).alike.keeps

theorem State.onPending_keeps (p : List Byte) {owner : RunNo → SetNo → ProveResult → Answer}
    (ho : ∀ r k x, s.Keeps (owner r k x).work.state) : s.Keeps (s.onPending p owner).work.state := by
  unfold State.onPending
  split
  · exact .refl s
  · split
    · exact ho ..
    all_goals exact .refl s

theorem acceptProveRequest_keeps (p : List Byte) (s : State) :
    s.Keeps (acceptProveRequest p s).work.state :=
  State.onPending_keeps p fun r k x => ((s.applyShift_alike r k x.shift).trans
    (State.endProve_proved _ r .accepted none).alike).keeps

theorem rejectProveRequest_keeps (p : List Byte) (s : State) :
    s.Keeps (rejectProveRequest p s).work.state :=
  State.onPending_keeps p fun r _ _ => (s.endProve_proved r .rejected none).alike.keeps

theorem clearShiftRequest_keeps (p : List Byte) (s : State) : s.Keeps (clearShiftRequest p s).work.state := by
  unfold clearShiftRequest
  split
  · split
    · exact .refl s
    · exact State.Alike.keeps State.alike_of_blocks
  · exact .refl s

/-! ### Requests to the Condition Unit -/

theorem acknowledgeAll_alike (l : List Nat) (s : State) : s.Alike (acknowledgeAll l s).1 := by
  induction l generalizing s with
  | nil => exact .refl s
  | cons n l ih => exact (s.acknowledge_alike n).trans (ih _)

theorem ackConditionsRequest_keeps (p : List Byte) (s : State) :
    s.Keeps (ackConditionsRequest p s).work.state := by
  unfold ackConditionsRequest
  split
  · exact (acknowledgeAll_alike _ s).keeps
  · dsimp only
    split
    · exact (acknowledgeAll_alike _ s).keeps
    · exact .refl s
  · exact .refl s

theorem CondEntry.active_clearAtZero (levels : Levels) (n : Nat) (e : CondEntry) :
    (clearAtZero levels n e).active = e.active := by
  unfold clearAtZero
  split <;> rfl

/-- New levels clear what is pending and begin or end no condition (R151). -/
theorem State.setLevels_alike (s : State) (levels : Levels) :
    s.Alike { s with cond := s.cond.setLevels levels } := by
  refine ⟨fun _ => rfl, rfl, rfl, rfl, by simp [ConditionUnit.setLevels], fun _ n _ _ => ?_⟩
  simp only [State.entry, ConditionUnit.setLevels, List.getElem?_map, List.getElem?_zipIdx]
  cases s.cond.entries[n - 1]? with
  | none => rfl
  | some e => exact e.active_clearAtZero levels _

theorem setLevelsRequest_keeps (p : List Byte) (s : State) : s.Keeps (setLevelsRequest p s).work.state := by
  unfold setLevelsRequest
  dsimp only
  split
  · exact (s.setLevels_alike _).keeps
  · exact .refl s

/-! ### Requests to the ports, the Report Unit and the Management Unit -/

theorem setInboundPolicyRequest_keeps (p : List Byte) (s : State) :
    s.Keeps (setInboundPolicyRequest p s).work.state := by
  unfold setInboundPolicyRequest
  split
  · exact .refl s
  · exact State.Alike.keeps State.alike_of_blocks

theorem setReportingRequest_keeps (p : List Byte) (s : State) :
    s.Keeps (setReportingRequest p s).work.state := by
  unfold setReportingRequest
  dsimp only
  split
  · exact State.Alike.keeps State.alike_of_blocks
  · exact .refl s

theorem setSlotPlanRequest_keeps (p : List Byte) (s : State) :
    s.Keeps (setSlotPlanRequest p s).work.state := by
  unfold setSlotPlanRequest
  dsimp only
  split
  · exact .refl s
  · split
    · exact State.Alike.keeps State.alike_of_blocks
    · exact .refl s

theorem commissionRequest_keeps (p : List Byte) (s : State) : s.Keeps (commissionRequest p s).work.state := by
  unfold commissionRequest
  split
  · exact .refl s
  · exact (s.setDevice_keeps (d := .measuring) (by decide)).trans (State.openHead_alike _).keeps

theorem decommissionRequest_keeps (p : List Byte) (s : State) :
    s.Keeps (decommissionRequest p s).work.state := by
  have hclose : s.Keeps s.endAllProves.state.decommissionClose.work.state :=
    s.endAllProves_proved.alike.keeps.trans (State.decommissionClose_keeps _)
  unfold decommissionRequest
  split
  · exact .refl s
  · dsimp only
    split
    · exact hclose
    · exact hclose.trans (State.setDevice_keeps _ (by decide))

/-- A RESTART clears the flags of every run and makes every entry NORMAL (R76, R153, R180). -/
theorem State.restarted_keeps (s : State) : s.Keeps s.restarted := by
  have hchain : ∀ r, s.restarted.chainOf r = { s.chainOf r with flags := .clear } := fun r => by
    simp [State.chainOf, State.restarted]
  have hentry : ∀ n, (s.restarted.entry n).active = false := fun n => by
    simp only [State.entry, State.restarted, List.getElem?_replicate]
    split <;> rfl
  refine ⟨fun hs => State.residuesBelow_iff.2 fun r => ?_, fun _ _ r => by rw [hchain], fun hs => ?_⟩
  · rw [hchain]
    exact ⟨hs.kmilli r, hs.iv r, hs.gsv r, hs.nsv r, hs.mass r⟩
  · refine State.conditionsFollow_iff.2 ⟨⟨?_, ?_⟩, fun k _ r => ?_⟩
    · simpa [State.restarted, State.freshMap] using hs.slots
    · simp [State.restarted]
    · rw [hentry, hchain, RunFlags.clear_of]

theorem restartRequest_keeps (p : List Byte) (s : State) : s.Keeps (restartRequest p s).work.state := by
  unfold restartRequest
  split
  · exact .refl s
  · exact s.restarted_keeps

theorem setTimeRequest_keeps (p : List Byte) (s : State) : s.Keeps (setTimeRequest p s).work.state :=
  State.Alike.keeps State.alike_of_blocks

end Sys2Proof.Machine
end

section
/-!
The invariants of the measurement at the Outbound Port and at every command, and the invariants of every step
(R17, R61, R62, R70, R71, R140, R142).
-/

namespace Sys2Proof.Machine

variable {s t : State}

/-! ### The Outbound Port -/

theorem State.startFrame_alike (s : State) (f : Frame) (k : PreviousKind) : s.Alike (s.startFrame f k) :=
  State.alike_of_blocks

theorem State.startReport_alike (s : State) (x : Reported) : s.Alike (s.startReport x) := by
  cases x with
  | entry n =>
    exact (s.modifyEntry_alike n (f := fun e => { e with pending := false }) fun _ => rfl).trans
      (State.startFrame_alike _ _ _)
  | notice id => exact State.alike_of_blocks

theorem State.startSource_alike (s : State) (x : Source) : s.Alike (s.startSource x) := by
  unfold State.startSource
  cases x with
  | forward =>
    dsimp only
    split
    · exact .refl s
    · exact State.alike_of_blocks
  | result =>
    dsimp only
    split
    · exact .refl s
    · next id rest _ => cases id <;> exact State.alike_of_blocks
  | response =>
    dsimp only
    split
    · exact .refl s
    · exact State.alike_of_blocks
  | condition =>
    dsimp only
    split
    · exact .refl s
    · exact s.startReport_alike _
  | none => exact .refl s

theorem State.select_alike (s : State) : s.Alike s.select := by
  unfold State.select
  split
  · split
    · exact (s.startSource_alike _).trans State.alike_of_blocks
    · unfold State.idleOrWait
      split
      · exact s.startFrame_alike _ _
      · exact .refl s
  · exact .refl s

theorem dispatchSlotPlan_keeps (s : State) : s.Keeps s.dispatchSlotPlan := by
  refine State.whenRunning_keeps ?_
  split
  · exact .refl s
  · next f _ =>
    split
    · have hanswer : s.Keeps (if lengthFits 32 f.params then setSlotPlanRequest f.params s.popHead
          else s.popHead.refuse .badLength).work.state := by
        split
        · exact s.popHead_alike.keeps.trans (setSlotPlanRequest_keeps _ _)
        · exact s.popHead_alike.keeps
      generalize (if lengthFits 32 f.params then setSlotPlanRequest f.params s.popHead
          else s.popHead.refuse .badLength) = a at hanswer ⊢
      dsimp only
      split
      · exact (Answer.conclude_keeps hanswer f).trans (State.select_alike _).keeps
      · exact Answer.conclude_keeps hanswer f
    · exact .refl s

/-! ### The other commands -/

/-- After a power-on reset the invariants hold (R25, R76, R153). -/
theorem execPowerOnReset_keeps (h : execPowerOnReset s = .next t) : s.Keeps t := by
  cases h
  have hchain : ∀ r, State.reset.chainOf r = .powerOn := fun r => Four.get_const _ r
  have hrun : ∀ r, State.reset.run r = .powerOn := fun r => Four.get_const _ r
  have hentry : ∀ n, (State.reset.entry n).active = false := fun n => by
    simp only [State.entry, State.reset, List.getElem?_replicate]
    split <;> rfl
  have hres : State.reset.ResiduesBelow := State.residuesBelow_iff.2 fun r => by
    rw [hchain, hrun]
    exact ⟨nofun, nofun, by decide, by decide, by decide⟩
  have hcond : State.reset.ConditionsFollow := State.conditionsFollow_iff.2
    ⟨⟨List.length_replicate, List.length_replicate⟩, fun k _ r => by
      rw [hentry, hchain]
      exact (RunFlags.clear_of k).symm⟩
  refine ⟨fun _ => { hres with }, fun _ _ r => ?_, fun _ => { hcond with slots := hcond.slots }⟩
  exact congrArg ChainRecord.flags (hchain r)

theorem State.dispatchHead_keeps {use : Frame → State → State} (h : ∀ f, s.Keeps (use f s)) :
    s.Keeps (s.dispatchHead use) := by
  refine State.whenRunning_keeps ?_
  split
  · exact .refl s
  · exact h _

theorem State.arrive_alike (s : State) (f : Frame) : s.Alike (s.arrive f) := by
  have fifo : ∀ l, s.Alike (s.setFifo l) := fun _ => State.alike_of_blocks
  have drop : ∀ u : State, u.Alike (u.occur .inboundDrop 1) := fun _ =>
    State.occur_alike fun _ => .inr (by decide)
  unfold State.arrive
  dsimp only
  split
  · exact fifo _
  · split
    · exact drop s
    · exact drop s
    · split
      · exact (fifo _).trans (drop _)
      · exact drop s

theorem State.checkError_alike (s : State) : s.Alike (s.occur .checkError 1) :=
  State.occur_alike fun _ => .inr (by decide)

theorem execFrameEnd_keeps (bytes : List Byte) (h : execFrameEnd bytes s = .next t) : s.Keeps t := by
  cases h
  refine State.whenRunning_keeps ?_
  have hreception : s.Alike (s.setReception .none) := State.alike_of_blocks
  split
  · exact .refl s
  · dsimp only
    split
    · exact (hreception.trans (State.arrive_alike _ _)).keeps
    · exact (hreception.trans (State.checkError_alike _)).keeps

theorem execTriggerFrame_keeps (h : execTriggerFrame s = .next t) : s.Keeps t := by
  cases h
  refine State.dispatchHead_keeps fun f => ?_
  have htriggered := s.popHead_alike.trans (State.triggerAll_triggered _ .external).alike
  split
  · split
    · exact htriggered.keeps
    · split
      · exact (htriggered.trans (State.appendForward_alike _ f)).keeps
      · exact .refl s
  · exact .refl s

/-- A timer of a slot's record expires and the record changes (R12, R13). -/
theorem State.expired_alike {slot : Nat} {e : MapEntry} (he : s.slotEntry slot = some e) (timer : Nat)
    (new : LiveRecord) : s.Alike ((s.passTo timer).updateRecord slot e new) := by
  have hslot : (s.passTo timer).points.map.length = 15 → slot ≤ 15 := State.slotEntry_le he
  exact (s.passTo_alike timer).trans (State.updateRecord_alike hslot e new)

theorem execStaleTimerExpiry_keeps (slot : Nat) (h : execStaleTimerExpiry slot s = .next t) : s.Keeps t := by
  cases h
  refine State.whenRunning_keeps ?_
  split
  · exact .refl s
  · next e he =>
    split
    · exact (State.expired_alike he _ _).keeps
    · exact .refl s

theorem execHoldTimerExpiry_keeps (slot : Nat) (h : execHoldTimerExpiry slot s = .next t) : s.Keeps t := by
  cases h
  refine State.whenRunning_keeps ?_
  split
  · exact .refl s
  · next e he =>
    split
    · exact (State.expired_alike he _ _).keeps
    · exact .refl s

theorem execCloseTimerExpiry_keeps (r : RunNo) (h : execCloseTimerExpiry r s = .next t) : s.Keeps t := by
  cases h
  refine State.whenRunning_keeps ?_
  split
  · exact ((s.passTo_alike _).keeps.trans (State.closeRun_keeps _ r)).finish
  · exact .refl s

theorem execInterfaceTimerExpiry_keeps (h : execInterfaceTimerExpiry s = .next t) : s.Keeps t := by
  cases h
  refine State.whenRunning_keeps ?_
  split
  · next e _ =>
    have hraised : s.Alike (((s.passTo e).setDetector .interface).raiseEntry .interface 1) :=
      State.Alike.trans (t := (s.passTo e).setDetector .interface) State.alike_of_blocks
        (State.raiseEntry_alike fun _ => .inr (by decide))
    refine State.Keeps.finish (State.Keeps.trans ?_ (State.countLevel3_alike _ .interface).keeps)
    split_ifs
    · exact hraised.keeps.trans (State.beginClose_keeps _ _)
    · exact hraised.keeps
  · exact .refl s
  · exact .refl s

theorem execPassTimerExpiry_keeps (h : execPassTimerExpiry s = .next t) : s.Keeps t := by
  cases h
  refine State.whenRunning_keeps ?_
  split
  · exact .refl s
  · split
    · exact ((s.passTo_alike _).trans (State.endProve_proved ..).alike).keeps.finish
    all_goals exact .refl s

theorem execAcceptTimerExpiry_keeps (r : RunNo) (h : execAcceptTimerExpiry r s = .next t) : s.Keeps t := by
  cases h
  refine State.whenRunning_keeps ?_
  split
  · exact ((s.passTo_alike _).trans (State.endProve_proved ..).alike).keeps.finish
  all_goals exact .refl s

theorem execReportPeriodExpiry_keeps (h : execReportPeriodExpiry s = .next t) : s.Keeps t := by
  cases h
  refine State.whenRunning_keeps ?_
  split
  · next e _ =>
    have htriggered := (s.passTo_alike e).trans (State.triggerAll_triggered _ .periodic).alike
    exact (htriggered.trans State.alike_of_blocks).keeps
  · exact .refl s

theorem execDownstreamReadyChange_keeps (level : Bool) (h : execDownstreamReadyChange level s = .next t) :
    s.Keeps t := by
  cases h
  have hline : s.Alike { s with outbound := { s.outbound with downstreamReady := level } } :=
    State.alike_of_blocks
  split
  · exact hline.keeps.trans (State.whenRunning_keeps (State.select_alike _).keeps)
  · exact hline.keeps

/-- Every command keeps the three invariants. -/
theorem exec_keeps (c : Instr) (h : exec c s = .next t) : s.Keeps t := by
  have reads : ∀ (k : Nat) {owner : List Byte → State → Answer},
      (∀ p s, (owner p s).work.state = s) → s.Keeps (s.request k owner) := fun k _ ho =>
    request_keeps k (keeps_of_state_eq ho) s
  cases c
  case powerOnReset => exact execPowerOnReset_keeps h
  case resetEnd =>
    cases h
    split
    · exact State.Alike.keeps State.alike_of_blocks
    · exact .refl s
  case receptionStart =>
    cases h
    refine State.whenRunning_keeps ?_
    split
    · exact State.Alike.keeps State.alike_of_blocks
    · exact .refl s
  case frameEnd bytes => exact execFrameEnd_keeps bytes h
  case forwardDispatch =>
    cases h
    refine State.dispatchHead_keeps fun f => ?_
    split
    · exact (s.popHead_alike.trans (State.appendForward_alike _ f)).keeps
    · exact .refl s
  case pulseFrame => cases h; exact dispatchSample_keeps _ (fun f _ e c _ hs => usePulse_keeps f e c hs) s
  case valueFrame =>
    cases h
    exact dispatchSample_keeps _ (fun f _ e c _ hs => (useValue_alike f e c hs).keeps) s
  case passFrame => cases h; exact dispatchSample_keeps _ (fun f _ e c _ _ => (usePass_alike f _ e c _).keeps) s
  case triggerFrame => exact execTriggerFrame_keeps h
  case invalidOwnFrame =>
    cases h
    refine State.dispatchHead_keeps fun f => ?_
    split
    · exact (s.popHead_alike.trans (State.checkError_alike _)).keeps
    · exact .refl s
  case staleTimerExpiry slot => exact execStaleTimerExpiry_keeps slot h
  case holdTimerExpiry slot => exact execHoldTimerExpiry_keeps slot h
  case closeTimerExpiry r => exact execCloseTimerExpiry_keeps r h
  case interfaceTimerExpiry => exact execInterfaceTimerExpiry_keeps h
  case passTimerExpiry => exact execPassTimerExpiry_keeps h
  case acceptTimerExpiry r => exact execAcceptTimerExpiry_keeps r h
  case reportPeriodExpiry => exact execReportPeriodExpiry_keeps h
  case idleIntervalReached =>
    cases h
    refine State.whenRunning_keeps ?_
    split
    · exact ((s.passTo_alike _).trans (State.select_alike _)).keeps
    · exact .refl s
  case stationTimeAdvance =>
    cases h
    exact State.whenRunning_keeps (State.Alike.keeps State.alike_of_blocks)
  case downstreamReadyChange level => exact execDownstreamReadyChange_keeps level h
  case transmissionStart =>
    cases h
    refine State.whenRunning_keeps ?_
    split
    · exact s.select_alike.keeps
    · exact .refl s
  case transmissionComplete =>
    cases h
    refine State.whenRunning_keeps ?_
    split
    · exact (State.Alike.trans State.alike_of_blocks
        (State.select_alike _)).keeps
    · exact .refl s
  case unknownRequest => cases h; exact dispatchRequest_keeps (fun _ s => .refl s) s
  case mapPoint => cases h; exact request_keeps 1 mapPointRequest_keeps s
  case unmapPoint => cases h; exact request_keeps 2 unmapPointRequest_keeps s
  case configureRun => cases h; exact request_keeps 3 configureRunRequest_keeps s
  case configureHeader => cases h; exact request_keeps 4 configureHeaderRequest_keeps s
  case setRunServiceOpen => cases h; exact setRunService_keeps 0 1 openRun_keeps s
  case setRunServiceClose => cases h; exact setRunService_keeps 1 0 closeRunRequest_keeps s
  case readLive => cases h; exact reads 6 readLiveRequest_state
  case beginLoad => cases h; exact request_keeps 7 beginLoadRequest_keeps s
  case loadSegment => cases h; exact request_keeps 8 loadSegmentRequest_keeps s
  case commitSet => cases h; exact request_keeps 9 commitSetRequest_keeps s
  case discardSet => cases h; exact request_keeps 10 discardSetRequest_keeps s
  case readSetInfo => cases h; exact reads 11 readSetInfoRequest_state
  case queueBatch => cases h; exact request_keeps 12 queueBatchRequest_keeps s
  case cancelBatch => cases h; exact request_keeps 13 cancelBatchRequest_keeps s
  case closeBatch => cases h; exact request_keeps 14 closeBatchRequest_keeps s
  case amendTarget => cases h; exact request_keeps 15 amendTargetRequest_keeps s
  case readSchedule => cases h; exact reads 16 readScheduleRequest_state
  case readTicket => cases h; exact reads 17 readTicketRequest_state
  case releaseTicket => cases h; exact request_keeps 18 releaseTicketRequest_keeps s
  case readTotals => cases h; exact reads 19 readTotalsRequest_state
  case seedTotals => cases h; exact request_keeps 20 seedTotalsRequest_keeps s
  case configureProver => cases h; exact request_keeps 21 configureProverRequest_keeps s
  case requestProve => cases h; exact request_keeps 22 requestProveRequest_keeps s
  case cancelProve => cases h; exact request_keeps 23 cancelProveRequest_keeps s
  case acceptProve => cases h; exact request_keeps 24 acceptProveRequest_keeps s
  case rejectProve => cases h; exact request_keeps 25 rejectProveRequest_keeps s
  case readProve => cases h; exact reads 26 readProveRequest_state
  case clearShift => cases h; exact request_keeps 27 clearShiftRequest_keeps s
  case ackConditions => cases h; exact request_keeps 28 ackConditionsRequest_keeps s
  case setLevels => cases h; exact request_keeps 29 setLevelsRequest_keeps s
  case readConditions => cases h; exact reads 30 readConditionsRequest_state
  case setInboundPolicy => cases h; exact request_keeps 31 setInboundPolicyRequest_keeps s
  case setSlotPlan => cases h; exact dispatchSlotPlan_keeps s
  case setReporting => cases h; exact request_keeps 33 setReportingRequest_keeps s
  case commission => cases h; exact request_keeps 34 commissionRequest_keeps s
  case decommission => cases h; exact request_keeps 35 decommissionRequest_keeps s
  case restart => cases h; exact request_keeps 36 restartRequest_keeps s
  case setTime => cases h; exact request_keeps 37 setTimeRequest_keeps s
  case readStatus => cases h; exact reads 38 readStatusRequest_state

theorem State.tick_alike (s : State) : s.Alike s.tick := by
  unfold State.tick
  split
  · exact .refl s
  · exact State.alike_of_blocks

theorem step_keeps (h : step s = .next t) : s.Keeps t := by
  unfold step at h
  split at h
  · cases h
    exact s.tick_alike.keeps
  · next c rest _ =>
    have hqueue : s.Alike (s.withPending rest) := State.alike_of_blocks
    exact hqueue.keeps.trans (exec_keeps c h)

/-! ### The invariants -/

/-- Settles O7: the writers of a residue leave a remainder, zero it, or leave it; a new K-factor lies above it. -/
theorem residuesStayBelow : Obligations.ResiduesStayBelow := fun _ _ hs h => (step_keeps h).residues hs

/-- Settles O9: an UNCOMMISSIONED part sets no flag, and a part that becomes it clears them all. -/
theorem flagsStayQuiet : Obligations.FlagsStayQuiet := fun _ _ hs h => (step_keeps h).quiet hs

/-- Settles O10: each flag that changes raises or returns its own entry, and nothing else reaches it. -/
theorem conditionsFollowFlags : Obligations.ConditionsFollowFlags := fun _ _ hs h => (step_keeps h).conditions hs

end Sys2Proof.Machine
end

section
/-!
The completion of a close that is no decommission, in full: the ticket, the opened successor, the INTERFACE
condition and the prover; and CLOSE_BATCH (R80, R86, R88, R91, R92, R97, R134).
-/

namespace Sys2Proof.Machine

variable {s t u : State}

theorem State.uncommissioned_eq_true : s.uncommissioned = true ↔ s.mgmt.device = .uncommissioned := by
  simp [State.uncommissioned]

theorem State.uncommissioned_eq_false : s.uncommissioned = false ↔ s.mgmt.device ≠ .uncommissioned := by
  simp [State.uncommissioned]

/-! ### The detector set afresh, and the opening -/

/-- INTERFACE returned where the detector stands in INTERFACE (R97). -/
def State.interfaceReturned (s : State) : State :=
  if s.batch.detector = .interface then s.returnCond .interface 1 else s

theorem State.judge_of_inside (s : State) : ∃ d, (s.setDetector .inside).judge = s.setDetector d := by
  unfold State.judge
  split
  · exact ⟨_, rfl⟩
  · next h _ => cases h
  · next h _ => cases h
  all_goals exact ⟨_, rfl⟩

theorem State.detectorAfresh_eq (s : State) : ∃ d, s.detectorAfresh = s.interfaceReturned.setDetector d :=
  s.interfaceReturned.judge_of_inside

theorem State.interfaceReturned_eq (s : State) :
    s.interfaceReturned = { s with cond := s.interfaceReturned.cond } := by
  unfold State.interfaceReturned
  split <;> rfl

theorem State.interfaceReturned_cond_congr (hd : t.batch.detector = s.batch.detector) (hc : t.cond = s.cond) :
    t.interfaceReturned.cond = s.interfaceReturned.cond := by
  unfold State.interfaceReturned
  rw [hd]
  split
  · rw [State.returnCond, State.returnCond, State.modifyEntry_cond, State.modifyEntry_cond, State.levelOf,
      State.levelOf, hc]
  · exact hc

/-- An opening gives the head its sequence, may return INTERFACE, and moves the detector and the snapshots (R80). -/
theorem State.openHead_eq {b : BatchEntry} {rest : List BatchEntry} (h : s.batch.schedule = b :: rest) :
    ∃ d r, s.openHead.state = { s with
      batch := ⟨s.successor b :: rest, nextSequence s.batch.counter, d⟩
      cond := s.interfaceReturned.cond, reports := r } := by
  set o : State := { s with batch := { s.batch with
    schedule := s.successor b :: rest, counter := nextSequence s.batch.counter } } with ho
  have hopen : s.openHead.state = o.detectorAfresh.triggerAll .batchChange := by
    simp only [State.openHead, h]
    rfl
  obtain ⟨d, hd⟩ := o.detectorAfresh_eq
  have hcond : o.interfaceReturned.cond = s.interfaceReturned.cond := State.interfaceReturned_cond_congr rfl rfl
  refine ⟨d, s.openHead.state.reports, ?_⟩
  rw [hopen, (State.triggerAll_triggered ..).eq, hd, o.interfaceReturned_eq, hcond]
  rfl

/-! ### The completion -/

/-- The state of a completion that is no decommission, before its grade check: the ticket, the obstacles returned,
and the successor opened, with a detector and snapshots (R91, R92). -/
def State.succeeded (s : State) (cause : CloseCause) (a : BatchEntry) (rest : List BatchEntry) (d : Detector)
    (r : ReportUnit) : State :=
  { s with
    tickets := s.tickets ++ [s.makeTicket a cause]
    batch := ⟨s.successor (rest.headD a.unnominated) :: rest.tail, nextSequence s.batch.counter, d⟩
    cond := ((s.returnCond .overTarget 1).returnCond .ticketStoreFull 1).interfaceReturned.cond
    reports := r }

theorem State.completeClose_eq {cause : CloseCause} (hcause : cause ≠ .decommission) {a : BatchEntry}
    {rest : List BatchEntry} (h : s.batch.schedule = a :: rest) : ∃ d r,
    (s.completeClose cause false).state =
      ((s.succeeded cause a rest d r).gradeCheck (rest.headD a.unnominated).set).state := by
  have hnot : (false || cause == .decommission) = false := by simpa using hcause
  set p := (({ s with tickets := s.tickets ++ [s.makeTicket a cause] }.setSchedule
    (rest.headD a.unnominated :: rest.tail)).returnCond .overTarget 1).returnCond .ticketStoreFull 1 with hp
  have hstate : (s.completeClose cause false).state =
      (p.openHead.state.gradeCheck (rest.headD a.unnominated).set).state := by
    cases rest <;> simp only [State.completeClose, h, hnot, Bool.false_eq_true, if_false] <;> rfl
  obtain ⟨d, r, hopen⟩ := State.openHead_eq (s := p) rfl
  have hcond : p.interfaceReturned.cond =
      ((s.returnCond .overTarget 1).returnCond .ticketStoreFull 1).interfaceReturned.cond :=
    State.interfaceReturned_cond_congr rfl rfl
  refine ⟨d, r, ?_⟩
  rw [hstate, hopen, hcond]
  rfl

/-! ### The prover at a completion -/

theorem State.prove_congr (h : t.prover = s.prover) (r : RunNo) : t.prove r = s.prove r :=
  congrArg (fun p => p.records.get r) h

/-- The hand-on tells only of the Prover Unit it leads to. -/
theorem State.HandedOn.to_after {now : Nat} (h : s.HandedOn t now) (hp : u.prover = t.prover) :
    s.HandedOn u now := by
  obtain ⟨hnobody, hnext, hskipped⟩ := h
  rw [← hp] at hnobody hnext hskipped
  simp only [← State.prove_congr hp] at hnext hskipped
  exact ⟨hnobody, hnext, hskipped⟩

/-- A completion leaves the prover, but for an ACTIVE prove of another set, which ends and hands the prover on
(R92, R134). -/
theorem State.gradeCheck_prover (s : State) (k : SetNo) :
    (s.activeProve = none → (s.gradeCheck k).state.prover = s.prover) ∧
    ∀ r j rho count window timer, s.activeProve = some r →
      (s.prove r).state = .active j rho count window timer →
      (k = j → (s.gradeCheck k).state.prover = s.prover) ∧
      (k ≠ j → s.prover.queue = [] ∨ s.ProverOrdered →
        (s.gradeCheck k).state.prove r =
          ⟨.none, some ⟨.abortedGradeChange, s.mgmt.stationTime, some j, some count, none⟩⟩ ∧
        s.HandedOn (s.gradeCheck k).state s.now) := by
  refine ⟨fun h => ?_, fun r j rho count window timer h hact => ?_⟩
  · rw [State.gradeCheck, h]
    rfl
  · have hset : (s.prove r).state.recordedSet = some j := by rw [hact]; rfl
    have hgrade : s.gradeCheck k = if some j = some k then s.work else s.endProve r .abortedGradeChange none := by
      rw [State.gradeCheck, h, ← hset]
    refine ⟨fun hk => ?_, fun hk hqueue => ?_⟩
    · rw [hgrade, if_pos (congrArg some hk.symm)]
      rfl
    · rw [hgrade, if_neg fun hjk => hk (Option.some.inj hjk).symm]
      exact State.endProve_active hact hqueue .abortedGradeChange none

/-! ### The beginning of a close -/

/-- No obstacle: room for the ticket, and a successor or a cause or mark that needs none (R88). -/
theorem State.obstaclesFor_clear {cause : CloseCause} {x y : Bool} :
    (s.obstaclesFor cause x y).clear = true ↔ s.tickets.length < 16 ∧
      (2 ≤ s.batch.schedule.length ∨ cause ≠ .target ∨ x = true ∨ y = true) := by
  simp only [State.obstaclesFor, Obstacles.clear, Config.ticketCapacity]
  grind

theorem State.beginClose_of_clear {cause : CloseCause} {b : BatchEntry} (hb : s.activeBatch = some b)
    (hclosing : b.closing = none) (h : (s.obstaclesFor cause false (cause == .decommission)).clear = true) :
    s.beginClose cause = ⟨s.completeClose cause (cause == .decommission), b.seq⟩ := by
  simp only [State.beginClose, hb, hclosing]
  exact if_pos h

/-- Settles O40: the close has no obstacle, and its completion by `completeClose_eq` and `gradeCheck_prover`. -/
theorem closeBatchMakesATicket : Obligations.CloseBatchMakesATicket := by
  intro s f b rest seq hreq hdevice hsched hclosing hseq hroom
  have hb : s.popHead.activeBatch = some b :=
    State.activeBatch_eq_some.2 ⟨State.uncommissioned_eq_false.2 hdevice, rest, hsched⟩
  have hbegin : s.popHead.beginClose .request = ⟨s.popHead.completeClose .request false, b.seq⟩ :=
    State.beginClose_of_clear hb hclosing (State.obstaclesFor_clear.2 ⟨hroom, .inr (.inl (by decide))⟩)
  set w := s.popHead.completeClose .request false with hw
  have hexec : s.request 14 closeBatchRequest =
      w.finish.queueResponse f .done (CloseStep.sequences ⟨w, b.seq⟩) := by
    rw [State.request_fits hreq closeBatchRequest (by decide) rfl]
    simp only [closeBatchRequest, hb, hclosing, hbegin, CloseStep.answer, hseq, Work.conclude_done]
  obtain ⟨d, r, hstate⟩ := State.completeClose_eq (s := s.popHead) (cause := .request) (by decide) hsched
  set v := s.popHead.succeeded .request b rest d r with hv
  set k := (rest.headD b.unnominated).set with hk
  have hgrade := v.gradeCheck_proved k
  rw [← hstate, ← hw] at hgrade
  have hnoted := w.finish_noted
  set t := w.finish.queueResponse f .done (CloseStep.sequences ⟨w, b.seq⟩)
  have hprover : t.prover = (v.gradeCheck k).state.prover := by
    rw [← hstate]
    exact hnoted.prover
  have hbatch : t.batch = v.batch := hnoted.batch.trans hgrade.batch
  obtain ⟨hidle, hactive⟩ := v.gradeCheck_prover k
  refine ⟨t, s.popHead.makeTicket b .request, s.popHead.successor (rest.headD b.unnominated), congrArg _ hexec,
    hnoted.tickets.trans hgrade.tickets, congrArg (Option.getD · 0) hseq, rfl, rfl, rfl, rfl, rfl, ?_, ?_, rfl, rfl,
    rfl, congrArg BatchUnit.schedule hbatch, congrArg BatchUnit.counter hbatch, rfl, rfl, rfl, rfl, ?_, ?_,
    fun h => hprover.trans (hidle h), fun r j rho count window timer h hact => ?_,
    hnoted.totals.trans hgrade.totals, hnoted.chain.trans hgrade.chain, hnoted.shifts.trans hgrade.shifts,
    hnoted.runs.trans hgrade.runs, hnoted.mgmt.trans hgrade.mgmt, hnoted.tables.trans hgrade.tables⟩
  · simp [State.makeTicket, BatchEntry.total, Four.toList, Nat.add_assoc]
  · simp [State.makeTicket, BatchEntry.total, Four.toList, Nat.add_assoc]
  · rintro rfl
    exact ⟨rfl, rfl, rfl, rfl, rfl⟩
  · rintro next more rfl
    exact ⟨rfl, rfl⟩
  · obtain ⟨hsame, hother⟩ := hactive r j rho count window timer h hact
    refine ⟨fun hset => hprover.trans (hsame hset), fun hset hqueue => ?_⟩
    obtain ⟨hself, hhanded⟩ := hother hset
      (hqueue.imp id fun h => ⟨h.once, h.queued, h.single, h.behind⟩)
    have hfrom : ({ s with batch := t.batch } : State).HandedOn (v.gradeCheck k).state s.now := by
      refine hhanded.of_before rfl rfl (fun _ _ => rfl) fun x hx => ⟨x, ?_, rfl, rfl⟩
      rw [← hx, State.activeBatch, State.activeBatch, hbatch]
      rfl
    exact ⟨(State.prove_congr hprover r).trans hself, hfrom.to_after hprover⟩

end Sys2Proof.Machine
end

section
/-!
The close that waits, and INTERFACE_TIMER_EXPIRY (R88, R90, R92, R95 to R97, R144).
-/

namespace Sys2Proof.Machine

variable {s t u : State}

/-! ### Raises in parts, and the obstacles followed -/

theorem State.raiseEntry_eq (s : State) (k : CondKind) (i : Nat) :
    s.raiseEntry k i = { s with cond := (s.raiseEntry k i).cond } := by
  unfold State.raiseEntry
  split <;> rfl

theorem State.raiseTakesEffect_of_commissioned (h : s.uncommissioned = false) (k : CondKind) :
    s.raiseTakesEffect k = true := by simp [State.raiseTakesEffect, h]

/-- A raise of a commissioned part is counted into the head at level 3 (R144). -/
theorem State.countLevel3_eq {b : BatchEntry} {rest : List BatchEntry} (hdevice : s.uncommissioned = false)
    (h : s.batch.schedule = b :: rest) (k : CondKind) : s.countLevel3 k = s.setSchedule
      ({ b with level3 := if s.levelOf k = 3 then saturate 65535 (b.level3 + 1) else b.level3 } :: rest) := by
  unfold State.countLevel3
  by_cases hlevel : s.levelOf k = 3
  · rw [if_pos ⟨State.raiseTakesEffect_of_commissioned hdevice k, hlevel⟩, State.mapActive_eq hdevice h,
      if_pos hlevel]
  · rw [if_neg fun hk => hlevel hk.2, if_neg hlevel, State.setSchedule, ← h]

theorem State.entry_raiseEntry (s : State) (k : CondKind) (i n : Nat) :
    (s.raiseEntry k i).entry n = (s.raise k i).entry n :=
  (State.entry_congr (congrArg _ (State.countLevel3_cond ..)) n).symm

/-- The obstacles of a waiting close: a full ticket store; and no entry behind, where the cause is TARGET and no mark
is set (R88). -/
theorem State.standing_of_closing {b : BatchEntry} {rest : List BatchEntry} {c : ClosePending}
    (hdevice : s.uncommissioned = false) (hsched : s.batch.schedule = b :: rest) (hc : b.closing = some c) :
    s.standing = ⟨decide (16 ≤ s.tickets.length),
      rest.isEmpty && c.cause == .target && !c.requestMark && !c.decommissionMark⟩ := by
  have hempty : decide ((b :: rest).length ≤ 1) = rest.isEmpty := by cases rest <;> simp
  simp only [State.standing, State.activeBatch_eq_some.2 ⟨hdevice, rest, hsched⟩, Option.bind_some, hc,
    State.obstaclesFor, hsched, hempty, Config.ticketCapacity]

/-- A condition whose obstacle stands as before is neither raised nor returned. -/
theorem State.follow_same (s : State) (k : CondKind) (i : Nat) (x : Bool) : s.follow k i x x = s := by
  cases x <;> rfl

theorem Work.map_work (s : State) (f : State → State) : s.work.map f = (f s).work := rfl

theorem State.Noted.rebatched (h : s.Noted t) : s.Rebatched t :=
  ⟨by rw [h.batch, h.reports, h.prover]; exact h.eq⟩

theorem State.follow_begins (s : State) (k : CondKind) (i : Nat) : s.follow k i false true = s.raise k i := rfl

/-! ### A close that waits -/

/-- A close that an obstacle stops makes the close-pending record, and its obstacles are raised (R88, R90). -/
theorem State.beginClose_of_blocked {cause : CloseCause} {b : BatchEntry} {rest : List BatchEntry}
    (hb : s.activeBatch = some b) (hsched : s.batch.schedule = b :: rest) (hclosing : b.closing = none)
    (h : ¬ (s.obstaclesFor cause false (cause == .decommission)).clear = true) :
    s.beginClose cause = ⟨((s.setSchedule ({ b with
      closing := some ⟨cause, s.mgmt.stationTime, false, cause == .decommission⟩ } :: rest)).followObstacles
        ⟨false, false⟩).work, none⟩ := by
  rw [← State.mapActive_eq (State.activeBatch_eq_some.1 hb).1 hsched fun b =>
    { b with closing := some ⟨cause, s.mgmt.stationTime, false, cause == .decommission⟩ }]
  simp only [State.beginClose, hb, hclosing]
  exact if_neg h

/-- The obstacles that appear with a full ticket store and no need of a successor (R90). -/
theorem State.followObstacles_full (h : s.standing = ⟨true, false⟩) :
    s.followObstacles ⟨false, false⟩ = s.raise .ticketStoreFull 1 := by
  rw [State.followObstacles, h, State.follow_same, State.follow_begins]

theorem State.beginClose_interface_full {b : BatchEntry} {rest : List BatchEntry} (hb : s.activeBatch = some b)
    (hsched : s.batch.schedule = b :: rest) (hclosing : b.closing = none) (hfull : 16 ≤ s.tickets.length) :
    s.beginClose .interface = ⟨((s.setSchedule ({ b with
      closing := some ⟨.interface, s.mgmt.stationTime, false, false⟩ } :: rest)).raise .ticketStoreFull 1).work,
        none⟩ := by
  have hblocked : ¬ (s.obstaclesFor .interface false false).clear = true := fun h =>
    Nat.not_lt.2 hfull (State.obstaclesFor_clear.1 h).1
  have hbegin := State.beginClose_of_blocked hb hsched hclosing hblocked
  have hdecommission : (CloseCause.interface == .decommission) = false := by decide
  rw [hdecommission] at hbegin
  rw [hbegin, State.followObstacles_full]
  refine (State.standing_of_closing (b := { b with closing := some _ }) (s := s.setSchedule (_ :: rest))
    (State.activeBatch_eq_some.1 hb).1 rfl rfl).trans ?_
  simp [hfull]

/-! ### The completion and the conditions -/

theorem State.interfaceReturned_raised (s : State) : s.Raised s.interfaceReturned := by
  unfold State.interfaceReturned
  split
  · exact s.returnCond_raised ..
  · exact .refl s

theorem State.completeClose_proved {cause : CloseCause} (hcause : cause ≠ .decommission) {a : BatchEntry}
    {rest : List BatchEntry} (h : s.batch.schedule = a :: rest) :
    ∃ d r, (s.succeeded cause a rest d r).Proved (s.completeClose cause false).state := by
  obtain ⟨d, r, hstate⟩ := State.completeClose_eq hcause h
  exact ⟨d, r, hstate ▸ State.gradeCheck_proved ..⟩

theorem State.succeeded_levels (s : State) (cause : CloseCause) (a : BatchEntry) (rest : List BatchEntry)
    (d : Detector) (r : ReportUnit) : (s.succeeded cause a rest d r).cond.levels = s.cond.levels :=
  (((s.returnCond_raised .overTarget 1).trans (State.returnCond_raised ..)).trans
    (State.interfaceReturned_raised _)).levels

/-- A completion returns a standing INTERFACE as it sets the detector afresh (R97). -/
theorem State.succeeded_interface (hdetector : s.batch.detector = .interface)
    (hlen : s.cond.entries.length = 121) (cause : CloseCause) (a : BatchEntry) (rest : List BatchEntry)
    (d : Detector) (r : ReportUnit) :
    ((s.succeeded cause a rest d r).entry 118).state = (s.entry 118).state.afterReturn := by
  set x := (s.returnCond .overTarget 1).returnCond .ticketStoreFull 1 with hx
  have hxlen : x.cond.entries.length = 121 :=
    (((s.returnCond_raised .overTarget 1).trans (State.returnCond_raised ..)).entries).trans hlen
  have hreturned : x.interfaceReturned = x.returnCond .interface 1 := if_pos hdetector
  have hkept : x.entry 118 = s.entry 118 := by
    rw [hx, State.entry_returnCond_of_ne (by decide), State.entry_returnCond_of_ne (by decide)]
  have hself := State.entry_returnCond_self (s := x) (k := .interface) (i := 1)
    (by rw [hxlen]; decide)
  calc ((s.succeeded cause a rest d r).entry 118).state
      = (x.interfaceReturned.entry 118).state := rfl
    _ = ((x.returnCond .interface 1).entry 118).state := by rw [hreturned]
    _ = (x.entry 118).state.afterReturn := congrArg CondEntry.state hself
    _ = (s.entry 118).state.afterReturn := by rw [hkept]

/-! ### INTERFACE_TIMER_EXPIRY -/

/-- The part at the expiry of the interface timer, before a close and the count of the raise (R96). -/
def State.atInterface (s : State) (expiry : Nat) : State :=
  ((s.passTo expiry).setDetector .interface).raiseEntry .interface 1

theorem State.atInterface_eq (s : State) (expiry : Nat) : ∃ c, s.atInterface expiry = { s with
    now := max s.now expiry, batch := { s.batch with detector := .interface }, cond := c } :=
  ⟨_, State.raiseEntry_eq ..⟩

theorem State.atInterface_levels (s : State) (expiry : Nat) :
    (s.atInterface expiry).cond.levels = s.cond.levels := (State.raiseEntry_raised ..).levels

theorem State.atInterface_entries (s : State) (expiry : Nat) :
    (s.atInterface expiry).cond.entries.length = s.cond.entries.length := (State.raiseEntry_raised ..).entries

theorem State.atInterface_raised {expiry : Nat} (hdevice : s.uncommissioned = false)
    (hlen : s.cond.entries.length = 121) : ((s.atInterface expiry).entry 118).state = .activeUnack := by
  have hraise := State.entry_raise_self (s := (s.passTo expiry).setDetector .interface) (k := .interface) (i := 1)
    (State.raiseTakesEffect_of_commissioned hdevice _)
    (show 118 - 1 < s.cond.entries.length by omega)
  rw [State.atInterface, State.entry_raiseEntry]
  exact congrArg CondEntry.state hraise

theorem State.atInterface_activeBatch (s : State) (expiry : Nat) :
    (s.atInterface expiry).activeBatch = s.activeBatch := by
  obtain ⟨c, hc⟩ := s.atInterface_eq expiry
  rw [hc]
  rfl

theorem exec_interfaceTimerExpiry {b : BatchEntry} {expiry : Nat} (hheld : s.held = false)
    (hdetector : s.batch.detector = .timing expiry) (hb : s.activeBatch = some b) :
    exec .interfaceTimerExpiry s = .next (((if b.closeOnInterface
      then ((s.atInterface expiry).beginClose .interface).work
      else (s.atInterface expiry).work).map (·.countLevel3 .interface)).finish) := by
  have ha := (s.atInterface_activeBatch expiry).trans hb
  rw [State.atInterface] at ha
  simp only [exec, execInterfaceTimerExpiry, State.whenRunning, hheld, hdetector, ha, Bool.false_eq_true, if_false]
  rfl

/-- A close that the expiry begins completes where the ticket store has room (R92, R97, R144). -/
theorem exec_interfaceTimerExpiry_completes {b : BatchEntry} {later : List BatchEntry} {expiry : Nat}
    (hheld : s.held = false) (hdetector : s.batch.detector = .timing expiry) (hb : s.activeBatch = some b)
    (hset : b.closeOnInterface = true) (hclosing : b.closing = none) (hsched : s.batch.schedule = b :: later)
    (hroom : s.tickets.length < 16) : ∃ t, exec .interfaceTimerExpiry s = .next t ∧
      { s with now := max s.now expiry, tickets := s.tickets ++ [s.makeTicket b .interface] }.Rebatched t ∧
      t.batch.schedule = { s.successor (later.headD b.unnominated) with
        level3 := if s.cond.levels.batch = 3 then 1 else 0 } :: later.tail ∧
      (s.cond.entries.length = 121 → (t.entry 118).state = .returnedUnack) := by
  have hdevice := (State.activeBatch_eq_some.1 hb).1
  obtain ⟨c, hc⟩ := s.atInterface_eq expiry
  have halevels := s.atInterface_levels expiry
  have hainterface := s.atInterface_raised (expiry := expiry) hdevice
  have haentries := s.atInterface_entries expiry
  have haactive := (s.atInterface_activeBatch expiry).trans hb
  have hexec := exec_interfaceTimerExpiry hheld hdetector hb
  rw [hc] at halevels hainterface haentries haactive hexec
  set a : State := { s with
    now := max s.now expiry, batch := { s.batch with detector := .interface }, cond := c }
  have hbegin : a.beginClose .interface = ⟨a.completeClose .interface false, b.seq⟩ :=
    State.beginClose_of_clear haactive hclosing
      (State.obstaclesFor_clear.2 ⟨hroom, .inr (.inl (by decide))⟩)
  obtain ⟨d, r, hproved⟩ := State.completeClose_proved (s := a) (cause := .interface) (by decide) hsched
  set w := a.completeClose .interface false
  have hticketed : { s with now := max s.now expiry, tickets := s.tickets ++ [s.makeTicket b .interface] }.Rebatched
      w.state := State.Rebatched.trans (t := a.succeeded .interface b later d r) ⟨rfl⟩ hproved.rebatched
  have hwsched : w.state.batch.schedule = s.successor (later.headD b.unnominated) :: later.tail := by
    rw [hproved.batch]
    rfl
  have hwdevice : w.state.uncommissioned = false := by
    rw [State.uncommissioned, (congrArg State.mgmt hticketed.eq :)]
    exact hdevice
  have hlevel : w.state.levelOf .interface = s.cond.levels.batch := by
    rw [State.levelOf, hproved.cond, State.succeeded_levels, halevels]
    rfl
  have hnoted := (w.map (·.countLevel3 .interface)).finish_noted
  refine ⟨(w.map (·.countLevel3 .interface)).finish, ?_, (hticketed.trans
    (State.countLevel3_raised ..).rebatched).trans hnoted.rebatched, ?_, fun hlen => ?_⟩
  · rw [hexec, if_pos hset, hbegin]
  · rw [hnoted.batch]
    show (w.state.countLevel3 .interface).batch.schedule = _
    rw [State.countLevel3_eq hwdevice hwsched, hlevel]
    rfl
  · rw [State.entry_congr hnoted.entries]
    show ((w.state.countLevel3 .interface).entry 118).state = _
    rw [State.entry_congr (congrArg _ (State.countLevel3_cond ..)), State.entry_congr (congrArg _ hproved.cond),
      State.succeeded_interface rfl (haentries.trans hlen), hainterface hlen]
    rfl

/-- A close that the expiry begins waits while the ticket store is full (R88, R90). -/
theorem exec_interfaceTimerExpiry_waits {b : BatchEntry} {rest : List BatchEntry} {expiry : Nat}
    (hheld : s.held = false) (hdetector : s.batch.detector = .timing expiry) (hb : s.activeBatch = some b)
    (hset : b.closeOnInterface = true) (hclosing : b.closing = none) (hsched : s.batch.schedule = b :: rest)
    (hfull : 16 ≤ s.tickets.length) : exec .interfaceTimerExpiry s =
      .next ((((s.atInterface expiry).setSchedule ({ b with
        closing := some ⟨.interface, s.mgmt.stationTime, false, false⟩ } :: rest)).raise .ticketStoreFull
          1).countLevel3 .interface) := by
  obtain ⟨c, hc⟩ := s.atInterface_eq expiry
  have hbegin := State.beginClose_interface_full ((s.atInterface_activeBatch expiry).trans hb)
    (by rw [hc]; exact hsched) hclosing (by rw [hc]; exact hfull)
  have hmgmt : (s.atInterface expiry).mgmt = s.mgmt := by rw [hc]
  rw [exec_interfaceTimerExpiry hheld hdetector hb, if_pos hset, hbegin, Work.map_work, Work.finish_work, hmgmt]

/-- Settles O42: the expiry without a close, the close that completes, and the close that waits. -/
theorem interfaceTimerExpires : Obligations.InterfaceTimerExpires := by
  intro s b expiry hheld hdetector hb
  obtain ⟨hdevice, rest, hsched⟩ := State.activeBatch_eq_some.1 hb
  refine ⟨fun hnone => ?_, fun hset hclosing => ⟨fun seq later hs hseq hroom => ?_, fun hfull => ?_⟩⟩
  · have hkept : (if b.closeOnInterface then ((s.atInterface expiry).beginClose .interface).work
        else (s.atInterface expiry).work) = (s.atInterface expiry).work := by
      split
      · next hset =>
        have hpending : b.closing.isSome = true := hnone.resolve_left (by simp [hset])
        simp only [State.beginClose, (s.atInterface_activeBatch expiry).trans hb, hpending, if_true]
      · rfl
    rw [exec_interfaceTimerExpiry hheld hdetector hb, hkept, Work.map_work, Work.finish_work]
    rfl
  · obtain ⟨t, hexec, hreb, htsched, hreturned⟩ :=
      exec_interfaceTimerExpiry_completes hheld hdetector hb hset hclosing hs hroom
    refine ⟨t, _, _, hexec, (congrArg State.now hreb.eq :), (congrArg State.tickets hreb.eq :),
      congrArg (Option.getD · 0) hseq, rfl, rfl, htsched, rfl, rfl, rfl, ?_, ?_, hreturned,
      (congrArg State.totals hreb.eq :), (congrArg State.chain hreb.eq :), (congrArg State.runs hreb.eq :),
      (congrArg State.mgmt hreb.eq :)⟩
    · rintro rfl
      exact ⟨rfl, rfl, rfl⟩
    · rintro next more rfl
      exact ⟨rfl, rfl⟩
  · have hexec := exec_interfaceTimerExpiry_waits hheld hdetector hb hset hclosing hsched hfull
    have hentries := s.atInterface_entries expiry
    have hinterface := s.atInterface_raised (expiry := expiry) hdevice
    obtain ⟨c, hc⟩ := s.atInterface_eq expiry
    rw [hc] at hexec hentries hinterface
    set a : State := { s with
      now := max s.now expiry, batch := { s.batch with detector := .interface }, cond := c }
    set m := a.setSchedule ({ b with
      closing := some ⟨.interface, s.mgmt.stationTime, false, false⟩ } :: rest) with hm
    have hmdevice : m.uncommissioned = false := hdevice
    have hraised : m.Raised ((m.raise .ticketStoreFull 1).countLevel3 .interface) :=
      (m.raise_raised ..).trans (State.countLevel3_raised ..)
    obtain ⟨g, hg, hbatch⟩ := hraised.schedule
    obtain ⟨n, hn⟩ := State.activeBatch_modifyHead hraised.mgmt hg (congrArg BatchUnit.schedule hbatch)
      (State.activeBatch_eq_some.2 ⟨hmdevice, rest, rfl⟩)
    refine ⟨_, _, hexec, hraised.now, hraised.tickets, (congrArg BatchUnit.detector hbatch :), hn, rfl, rfl,
      hraised.counter, fun hlen => ?_⟩
    have hcount := fun n => State.entry_congr (t := (m.raise .ticketStoreFull 1).countLevel3 .interface)
      (congrArg _ (State.countLevel3_cond ..)) n
    have hmlen : m.cond.entries.length = 121 := hentries.trans hlen
    have hfull := State.entry_raise_self (k := .ticketStoreFull) (i := 1)
      (State.raiseTakesEffect_of_commissioned hmdevice _) (show 120 - 1 < m.cond.entries.length by omega)
    rw [hcount, hcount]
    refine ⟨?_, congrArg CondEntry.state hfull⟩
    rw [State.entry_raise_of_ne (by decide)]
    exact hinterface hlen

end Sys2Proof.Machine
end

section
/-!
QUEUE_BATCH, CANCEL_BATCH and AMEND_TARGET, and the closes they reach (R82 to R84, R88 to R90, R92).
-/

namespace Sys2Proof.Machine

variable {s t u : State}

/-! ### Finding a nomination in the schedule -/

section

variable {front back : List BatchEntry} {b : BatchEntry} {n : Nat}

theorem findIdx?_nomination (hfront : ∀ a ∈ front, a.nomination ≠ n) (hb : b.nomination = n) :
    (front ++ b :: back).findIdx? (fun b => b.nomination == n) = some front.length := by
  have hnone : front.findIdx? (fun b => b.nomination == n) = none :=
    List.findIdx?_eq_none_iff.2 fun a ha => by simpa using hfront a ha
  simp [List.findIdx?_append, List.findIdx?_cons, hnone, hb]

theorem findIdx?_nomination_none (h : ∀ a ∈ front, a.nomination ≠ n) :
    front.findIdx? (fun b => b.nomination == n) = none :=
  List.findIdx?_eq_none_iff.2 fun a ha => by simpa using h a ha

theorem State.position_eq (hsched : s.batch.schedule = front ++ b :: back)
    (hfront : ∀ a ∈ front, a.nomination ≠ n) (hb : b.nomination = n) : s.position n = front.length + 1 := by
  have hfind := List.findIdx?_eq_some_iff_findIdx_eq.1 (findIdx?_nomination (back := back) hfront hb)
  rw [State.position, hsched, hfind.2]

end

/-! ### Obstacles before and after a change of the schedule -/

theorem State.closePendingFlag_eq_false : s.closePendingFlag = false ↔
    ∀ b, s.activeBatch = some b → b.closing = none := by
  unfold State.closePendingFlag
  cases s.activeBatch with
  | none => simp
  | some b => simp

/-- A close pending is the head's, of a commissioned part (R85). -/
theorem State.closing_of_pending (h : s.closePendingFlag = true) : ∃ b rest c, s.uncommissioned = false ∧
    s.batch.schedule = b :: rest ∧ b.closing = some c := by
  unfold State.closePendingFlag at h
  cases hb : s.activeBatch with
  | none => rw [hb] at h; cases h
  | some b =>
    rw [hb] at h
    obtain ⟨hdevice, rest, hsched⟩ := State.activeBatch_eq_some.1 hb
    obtain ⟨c, hc⟩ := Option.isSome_iff_exists.1 h
    exact ⟨b, rest, c, hdevice, hsched, hc⟩

theorem State.standing_of_not_pending (h : s.closePendingFlag = false) : s.standing = ⟨false, false⟩ := by
  unfold State.standing
  cases hb : s.activeBatch with
  | none => rfl
  | some b => simp [State.closePendingFlag_eq_false.1 h b hb]

theorem State.followObstacles_same (s : State) : s.followObstacles s.standing = s := by
  rw [State.followObstacles, State.follow_same, State.follow_same]

/-! ### The test of a waiting close -/

theorem State.retestClose_of_not_pending (h : s.closePendingFlag = false) (before : Obstacles) :
    s.retestClose before = ⟨s.work, none⟩ := by
  unfold State.retestClose
  cases hb : s.activeBatch with
  | none => rfl
  | some b => simp only [State.closePendingFlag_eq_false.1 h b hb]

theorem State.retestClose_of_pending {b : BatchEntry} {c : ClosePending} (hb : s.activeBatch = some b)
    (hc : b.closing = some c) (before : Obstacles) : s.retestClose before = if s.standing.clear
      then ⟨s.completeClose c.cause c.decommissionMark, b.seq⟩
      else ⟨(s.followObstacles before).work, none⟩ := by
  simp only [State.retestClose, hb, hc]

/-- The batch opened by a completion is the successor (R80). -/
theorem State.completeClose_opened {cause : CloseCause} (hcause : cause ≠ .decommission)
    (hdevice : s.uncommissioned = false) {a : BatchEntry} {rest : List BatchEntry}
    (h : s.batch.schedule = a :: rest) (closed : Option Nat) :
    (CloseStep.mk (s.completeClose cause false) closed).opened = some (nextSequence s.batch.counter) := by
  obtain ⟨d, r, hproved⟩ := State.completeClose_proved hcause h
  have hactive : (s.completeClose cause false).state.activeBatch =
      some (s.successor (rest.headD a.unnominated)) := by
    refine State.activeBatch_eq_some.2 ⟨?_, rest.tail, congrArg BatchUnit.schedule hproved.batch⟩
    rw [State.uncommissioned, hproved.mgmt]
    exact hdevice
  rw [CloseStep.opened, hactive]
  rfl

/-! ### QUEUE_BATCH -/

/-- The entry that a QUEUE_BATCH nominates (R82). -/
def nominated (p : List Byte) (k : SetNo) (window : Option DensityWindow) : BatchEntry :=
  { nomination := natAt 0 4 p, set := k, rho := natAt 5 4 p, window, target := optionalAt 17 4 p,
    closeOnInterface := flagAt 22 p, seq := none, openTime := 0, openValid := false, records := .const .zero,
    proves := [], further := 0, level3 := 0, closing := none }

/-- The step of a close at a QUEUE_BATCH: the entry joins the tail, and a waiting close is tested (R82, R90). -/
def State.queueStep (s : State) (entry : BatchEntry) : CloseStep :=
  (s.setSchedule (s.batch.schedule ++ [entry])).retestClose s.standing

/-- The checks of a QUEUE_BATCH hold: its values in range, the nomination new, and room for it (R82). -/
def State.AcceptsNomination (s : State) (p : List Byte) (k : SetNo) (window : Option DensityWindow) : Prop :=
  (setAt 4 p = some k ∧ windowOf (natAt 9 4 p) (natAt 13 4 p) = some window ∧ natAt 0 4 p ≠ 0 ∧
    (s.tableSet k).state = .committed ∧ within 50000 120000 (natAt 5 4 p) = true ∧
    targetInRange (optionalAt 17 4 p) = true) ∧
  (∀ b ∈ s.batch.schedule, b.nomination ≠ natAt 0 4 p) ∧ s.batch.schedule.length < 8

theorem State.AcceptsNomination.fresh {p : List Byte} {k : SetNo} {window : Option DensityWindow}
    (h : s.AcceptsNomination p k window) : ∀ b ∈ s.batch.schedule, b.nomination ≠ natAt 0 4 p := by
  obtain ⟨-, hfresh, -⟩ := h
  exact hfresh

theorem exec_queueBatch {f : Frame} {p : List Byte} {k : SetNo} {window : Option DensityWindow}
    (hreq : s.Requests 12 f p) (hp : p.length = 23) (h : s.popHead.AcceptsNomination p k window) {step : CloseStep}
    (hstep : s.popHead.queueStep (nominated p k window) = step) : exec .queueBatch s = .next
      (step.work.finish.queueResponse f .done
        (byte (step.work.state.position (natAt 0 4 p)) ++ step.sequences)) := by
  obtain ⟨⟨hk, hwindow, hn, hset, hrho, htarget⟩, hfresh, hroom⟩ := h
  have hany : (s.popHead.batch.schedule.any fun b => b.nomination == natAt 0 4 p) = false :=
    List.any_eq_false.2 fun b hb => by simpa using hfresh b hb
  have hfull : ¬ Config.scheduleCapacity ≤ s.popHead.batch.schedule.length := Nat.not_le.2 hroom
  have hanswer : queueBatchRequest p s.popHead =
      step.work.done (byte (step.work.state.position (natAt 0 4 p)) ++ step.sequences) := by
    rw [← hstep]
    simp only [queueBatchRequest, hk, hwindow, hn, hset, hrho, htarget, hany, hfull, ne_eq, not_true_eq_false,
      Bool.not_true, Bool.false_eq_true, or_self, if_false]
    rfl
  have hrequest := State.request_fits hreq queueBatchRequest (by decide) (by rw [hp]; rfl)
  rw [hanswer] at hrequest
  exact congrArg Host.Outcome.next hrequest

/-- Where no close waits, or one goes on waiting for room alone, the entry joins the tail and no more (R82). -/
theorem State.queueStep_keeps {entry : BatchEntry} (hentry : entry.closing = none)
    (h : s.closePendingFlag = false ∨ (16 ≤ s.tickets.length ∧ s.standing.successor = false)) :
    s.queueStep entry = ⟨(s.setSchedule (s.batch.schedule ++ [entry])).work, none⟩ := by
  cases hflag : s.closePendingFlag with
  | false =>
    refine State.retestClose_of_not_pending (State.closePendingFlag_eq_false.2 fun b hb => ?_) _
    obtain ⟨hdevice, rest, hsched⟩ := State.activeBatch_eq_some.1 hb
    cases hs : s.batch.schedule with
    | nil =>
      rw [State.setSchedule_batch, hs] at hsched
      obtain ⟨rfl, -⟩ := List.cons.inj hsched
      exact hentry
    | cons a more =>
      rw [State.setSchedule_batch, hs] at hsched
      obtain ⟨rfl, -⟩ := List.cons.inj hsched
      exact State.closePendingFlag_eq_false.1 hflag a (State.activeBatch_eq_some.2 ⟨hdevice, more, hs⟩)
  | true =>
    obtain ⟨hfull, hsucc⟩ := h.resolve_left (by simp [hflag])
    obtain ⟨a, rest, c, hdevice, hsched, hc⟩ := State.closing_of_pending hflag
    set q := s.setSchedule (s.batch.schedule ++ [entry]) with hq
    have hqsched : q.batch.schedule = a :: (rest ++ [entry]) := by
      rw [hq, State.setSchedule_batch, hsched]
      rfl
    have hfullroom : s.standing.room = true := by
      rw [State.standing_of_closing hdevice hsched hc]
      exact decide_eq_true hfull
    have hbefore : s.standing = ⟨true, false⟩ := by
      show Obstacles.mk s.standing.room s.standing.successor = _
      rw [hfullroom, hsucc]
    have hafter : q.standing = ⟨true, false⟩ := by
      rw [State.standing_of_closing (s := q) hdevice hqsched hc]
      simp [hq, hfull]
    have hstep : s.queueStep entry = q.retestClose q.standing := by rw [hafter, ← hbefore]; rfl
    rw [hstep, State.retestClose_of_pending ((State.activeBatch_eq_some (s := q)).2 ⟨hdevice, _, hqsched⟩) hc,
      State.followObstacles_same, hafter]
    rfl

section

variable {a : BatchEntry} {c : ClosePending}

/-- The close that waits for a successor alone completes as one is nominated (R82, R90). -/
theorem State.queueStep_completes (hdevice : s.uncommissioned = false) (hsched : s.batch.schedule = [a])
    (hc : a.closing = some c) (hcause : c.cause = .target) (hmark : c.decommissionMark = false)
    (hroom : s.tickets.length < 16) (entry : BatchEntry) :
    s.queueStep entry = ⟨(s.setSchedule [a, entry]).completeClose .target false, a.seq⟩ := by
  have hclear : (s.setSchedule [a, entry]).standing.clear = true := by
    rw [State.standing_of_closing (s := s.setSchedule [a, entry]) hdevice rfl hc]
    simp [Obstacles.clear, Nat.not_le.2 hroom]
  rw [State.queueStep, hsched]
  refine (State.retestClose_of_pending (s := s.setSchedule [a, entry])
    (State.activeBatch_eq_some.2 ⟨hdevice, _, rfl⟩) hc _).trans ?_
  rw [hcause, hmark]
  exact if_pos hclear

/-- With the ticket store full the close goes on waiting for room, and OVER_TARGET returns (R90). -/
theorem State.queueStep_waits (hdevice : s.uncommissioned = false) (hsched : s.batch.schedule = [a])
    (hc : a.closing = some c) (hcause : c.cause = .target) (hrequest : c.requestMark = false)
    (hmark : c.decommissionMark = false) (hfull : 16 ≤ s.tickets.length) (entry : BatchEntry) :
    s.queueStep entry = ⟨((s.setSchedule [a, entry]).returnCond .overTarget 1).work, none⟩ := by
  have hbefore : s.standing = ⟨true, true⟩ := by
    rw [State.standing_of_closing hdevice hsched hc]
    simp [hfull, hcause, hrequest, hmark]
  have hafter : (s.setSchedule [a, entry]).standing = ⟨true, false⟩ := by
    rw [State.standing_of_closing (s := s.setSchedule [a, entry]) hdevice rfl hc]
    simp [hfull]
  have hfollow : (s.setSchedule [a, entry]).followObstacles ⟨true, true⟩ =
      (s.setSchedule [a, entry]).returnCond .overTarget 1 := by
    rw [State.followObstacles, hafter, State.follow_same]
    rfl
  rw [State.queueStep, hsched, hbefore]
  refine (State.retestClose_of_pending (s := s.setSchedule [a, entry])
    (State.activeBatch_eq_some.2 ⟨hdevice, _, rfl⟩) hc _).trans ?_
  rw [← hfollow]
  exact if_neg (by rw [hafter]; decide)

end

/-! ### CANCEL_BATCH -/

section

variable {front back : List BatchEntry} {b : BatchEntry} {p : List Byte}

theorem State.isActiveIndex_of_queued (h : front ≠ [] ∨ s.uncommissioned = true) :
    s.isActiveIndex front.length = false := by
  obtain h | h := h
  · simp [State.isActiveIndex, h]
  · simp [State.isActiveIndex, h]

theorem State.isActiveIndex_zero (h : s.uncommissioned = false) : s.isActiveIndex 0 = true := by
  simp [State.isActiveIndex, h]

theorem cancelBatchRequest_not_found (hnone : ∀ a ∈ s.batch.schedule, a.nomination ≠ natAt 0 4 p) :
    cancelBatchRequest p s = s.refuse .notFound := by
  simp only [cancelBatchRequest, findIdx?_nomination_none hnone]

theorem cancelBatchRequest_active (hdevice : s.uncommissioned = false) (hsched : s.batch.schedule = b :: back)
    (hb : b.nomination = natAt 0 4 p) : cancelBatchRequest p s = s.refuse .refusedState := by
  have hfind := findIdx?_nomination (front := []) (back := back) (by simp) hb
  rw [List.nil_append, ← hsched] at hfind
  simp only [cancelBatchRequest, hfind, List.length_nil, State.isActiveIndex_zero hdevice, if_true]

theorem cancelBatchRequest_queued (hsched : s.batch.schedule = front ++ b :: back)
    (hb : b.nomination = natAt 0 4 p) (hfront : ∀ a ∈ front, a.nomination ≠ natAt 0 4 p)
    (hqueued : front ≠ [] ∨ s.uncommissioned = true) : cancelBatchRequest p s =
      ((s.setSchedule (front ++ back)).followObstacles s.standing).answerDone [] := by
  have hfind := findIdx?_nomination (back := back) hfront hb
  have herase : (front ++ b :: back).eraseIdx front.length = front ++ back := by simp [List.eraseIdx_append]
  rw [← hsched] at hfind herase
  simp only [cancelBatchRequest, hfind, State.isActiveIndex_of_queued hqueued, Bool.false_eq_true, if_false, herase]

/-- A removal behind which an entry still stands, or whose waiting close needs no successor, brings no obstacle
back (R83, R88). -/
theorem State.standing_of_removed (hsched : s.batch.schedule = front ++ b :: back)
    (hqueued : front ≠ [] ∨ s.uncommissioned = true)
    (h : s.closePendingFlag = false ∨ 2 ≤ (front ++ back).length ∨ (∀ a c, front = [a] → a.closing = some c →
      c.cause ≠ .target ∨ c.requestMark = true ∨ c.decommissionMark = true)) :
    (s.setSchedule (front ++ back)).standing = s.standing := by
  cases front with
  | nil =>
    have hdevice := hqueued.resolve_left fun hne => hne rfl
    have hnone : ∀ l, (s.setSchedule l).closePendingFlag = false := fun l =>
      State.closePendingFlag_eq_false.2 fun x hx => by
        rw [show (s.setSchedule l).activeBatch = none from if_pos hdevice] at hx
        cases hx
    rw [State.standing_of_not_pending (hnone _)]
    exact (State.standing_of_not_pending (hnone s.batch.schedule)).symm
  | cons a more =>
    cases hflag : s.closePendingFlag with
    | false =>
      have hafter : (s.setSchedule (a :: more ++ back)).closePendingFlag = false := by
        refine Eq.trans ?_ hflag
        rw [State.closePendingFlag, State.closePendingFlag, State.activeBatch, State.activeBatch, hsched]
        rfl
      rw [State.standing_of_not_pending hafter, State.standing_of_not_pending hflag]
    | true =>
      obtain ⟨a', rest, c, hdevice, hs, hc⟩ := State.closing_of_pending hflag
      obtain ⟨rfl, rfl⟩ := List.cons.inj (hsched.symm.trans hs)
      have hneeds : ((more ++ back).isEmpty && c.cause == .target && !c.requestMark && !c.decommissionMark) =
          false := by
        by_cases hempty : more ++ back = []
        · obtain ⟨rfl, rfl⟩ := List.append_eq_nil_iff.1 hempty
          obtain h | h := h.resolve_left (by simp [hflag])
          · simp at h
          · obtain h | h | h := h a c rfl hc <;> simp [h]
        · simp [List.isEmpty_eq_false_iff.2 hempty]
      have hbehind : (more.append (b :: back)).isEmpty = false := by cases more <;> rfl
      rw [State.standing_of_closing hdevice hs hc, hbehind, State.standing_of_closing
        (s := s.setSchedule (a :: more ++ back)) (rest := more ++ back) hdevice rfl hc, hneeds]
      rfl

/-- With the lone entry behind a close at its target removed, the successor obstacle is back: OVER_TARGET is raised
(R83, R90). -/
theorem State.followObstacles_of_removed {a : BatchEntry} {c : ClosePending} (hdevice : s.uncommissioned = false)
    (hsched : s.batch.schedule = [a, b]) (hc : a.closing = some c) (hcause : c.cause = .target)
    (hrequest : c.requestMark = false) (hmark : c.decommissionMark = false) :
    (s.setSchedule [a]).followObstacles s.standing = (s.setSchedule [a]).raise .overTarget 1 := by
  have hbefore : s.standing = ⟨decide (16 ≤ s.tickets.length), false⟩ := by
    rw [State.standing_of_closing hdevice hsched hc]
    simp
  have hafter : (s.setSchedule [a]).standing = ⟨decide (16 ≤ s.tickets.length), true⟩ := by
    rw [State.standing_of_closing (s := s.setSchedule [a]) hdevice rfl hc]
    rw [hcause, hrequest, hmark]
    rfl
  rw [State.followObstacles, hbefore, hafter, State.follow_same, State.follow_begins]

end

/-! ### AMEND_TARGET -/

section

variable {front back : List BatchEntry} {b : BatchEntry} {p : List Byte}

theorem targetInRange_of_bounds {target : Option Nat} (h : ∀ x, target = some x → 1 ≤ x ∧ x ≤ 999999999) :
    targetInRange target = true := by
  cases target with
  | none => rfl
  | some x => exact within_eq_true.2 (h x rfl)

theorem modify_at_length (front back : List BatchEntry) (b : BatchEntry) (f : BatchEntry → BatchEntry) :
    (front ++ b :: back).modify front.length f = front ++ f b :: back := by
  induction front with
  | nil => rfl
  | cons a front ih => exact congrArg (a :: ·) ih

theorem amendTargetRequest_not_found (hrange : targetInRange (optionalAt 4 4 p) = true)
    (hnone : ∀ a ∈ s.batch.schedule, a.nomination ≠ natAt 0 4 p) :
    amendTargetRequest p s = s.refuse .notFound := by
  simp only [amendTargetRequest, hrange, findIdx?_nomination_none hnone, Bool.not_true, Bool.false_eq_true, if_false]

theorem amendTargetRequest_queued (hrange : targetInRange (optionalAt 4 4 p) = true)
    (hsched : s.batch.schedule = front ++ b :: back) (hb : b.nomination = natAt 0 4 p)
    (hfront : ∀ a ∈ front, a.nomination ≠ natAt 0 4 p) (hqueued : front ≠ [] ∨ s.uncommissioned = true) :
    amendTargetRequest p s =
      (s.setSchedule (front ++ { b with target := optionalAt 4 4 p } :: back)).answerDone [] := by
  have hfind := findIdx?_nomination (back := back) hfront hb
  simp only [amendTargetRequest, hrange, hsched, hfind, State.isActiveIndex_of_queued hqueued, modify_at_length,
    Bool.not_true, Bool.not_false, Bool.false_eq_true, if_false, if_true]

/-- The answer of an AMEND_TARGET that begins a close (R84). -/
def CloseStep.amendAnswer (c : CloseStep) : Answer :=
  match c.closed with
  | some _ => c.work.done (optional 4 (field 4) c.opened)
  | none => c.work.pendingAnswer (optional 4 (field 4) none)

/-- AMEND_TARGET of the active batch: refused while a close waits; a close where the new target is reached (R84). -/
theorem amendTargetRequest_active (hrange : targetInRange (optionalAt 4 4 p) = true)
    (hdevice : s.uncommissioned = false) (hsched : s.batch.schedule = b :: back)
    (hb : b.nomination = natAt 0 4 p) : amendTargetRequest p s =
      if b.closing.isSome then s.refuse .refusedState
      else if ∃ x, optionalAt 4 4 p = some x ∧ x * 1000 ≤ b.nsv
        then ((s.setSchedule ({ b with target := optionalAt 4 4 p } :: back)).beginClose .target).amendAnswer
        else (s.setSchedule ({ b with target := optionalAt 4 4 p } :: back)).answerDone [] := by
  have hfind := findIdx?_nomination (front := []) (back := back) (by simp) hb
  rw [List.nil_append, ← hsched, List.length_nil] at hfind
  have hmodify : s.batch.schedule.modify 0 (fun b => { b with target := optionalAt 4 4 p }) =
      { b with target := optionalAt 4 4 p } :: back := by rw [hsched]; rfl
  have hflag : s.closePendingFlag = b.closing.isSome := by
    rw [State.closePendingFlag, State.activeBatch_eq_some.2 ⟨hdevice, back, hsched⟩]
  have hactive : (s.setSchedule ({ b with target := optionalAt 4 4 p } :: back)).activeBatch =
      some { b with target := optionalAt 4 4 p } := State.activeBatch_eq_some.2 ⟨hdevice, back, rfl⟩
  simp only [amendTargetRequest, hrange, hfind, State.isActiveIndex_zero hdevice, hmodify, hflag, hactive,
    Bool.not_true, Bool.false_eq_true, if_false]
  refine if_congr Iff.rfl rfl ?_
  cases optionalAt 4 4 p with
  | none => simp
  | some x =>
    by_cases hx : x * 1000 ≤ b.nsv
    · rw [if_pos ⟨x, rfl, hx⟩]
      exact if_pos hx
    · rw [if_neg (by simpa using hx)]
      exact if_neg hx

/-- A close at the target begun without room or successor: the close-pending record, and raises (R88, R90). -/
theorem State.beginClose_target_blocked (hdevice : s.uncommissioned = false) (hsched : s.batch.schedule = b :: back)
    (hclosing : b.closing = none) (h : back = [] ∨ 16 ≤ s.tickets.length) :
    ∃ u, s.beginClose .target = ⟨u.work, none⟩ ∧ (s.setSchedule ({ b with
      closing := some ⟨.target, s.mgmt.stationTime, false, false⟩ } :: back)).Raised u := by
  have hblocked : ¬ (s.obstaclesFor .target false (CloseCause.target == .decommission)).clear = true := fun hclear => by
    obtain ⟨hroom, hsucc⟩ := State.obstaclesFor_clear.1 hclear
    obtain rfl | hfull := h
    · simp [hsched] at hsucc
    · omega
  have hnot : (CloseCause.target == .decommission) = false := by decide
  have hbegin := State.beginClose_of_blocked (State.activeBatch_eq_some.2 ⟨hdevice, back, hsched⟩) hsched hclosing
    hblocked
  rw [hnot] at hbegin
  exact ⟨_, hbegin, State.followObstacles_raised ..⟩

end

/-! ### The requests whose close completes or waits -/

/-- A completion with its answer: the ticket, the successor, and the response (R86, R92). -/
theorem State.completeClose_answered {cause : CloseCause} (hcause : cause ≠ .decommission) {a : BatchEntry}
    {rest : List BatchEntry} (h : s.batch.schedule = a :: rest) (f : Frame) (x : Result) (payload : List Byte)
    (ht : t = (s.completeClose cause false).finish.queueResponse f x payload) :
    t.tickets = s.tickets ++ [s.makeTicket a cause] ∧
      t.batch.schedule = s.successor (rest.headD a.unnominated) :: rest.tail ∧
      t.responses = (s.queueResponse f x payload).responses := by
  obtain ⟨d, r, hproved⟩ := State.completeClose_proved hcause h
  have hnoted := (s.completeClose cause false).finish_noted
  subst ht
  refine ⟨hnoted.tickets.trans hproved.tickets, congrArg BatchUnit.schedule (hnoted.batch.trans hproved.batch), ?_⟩
  rw [State.queueResponse_responses, hnoted.responses, hproved.responses]
  rfl

section

variable {f : Frame} {p : List Byte} {k : SetNo} {window : Option DensityWindow} {a : BatchEntry} {c : ClosePending}
  {seq : Nat}

theorem exec_queueBatch_keeps (hreq : s.Requests 12 f p) (hp : p.length = 23)
    (h : s.popHead.AcceptsNomination p k window)
    (hkeeps : s.closePendingFlag = false ∨ (16 ≤ s.tickets.length ∧ s.standing.successor = false)) :
    exec .queueBatch s = .next ((s.popHead.setSchedule (s.batch.schedule ++ [nominated p k window])).queueResponse
      f .done (byte (s.batch.schedule.length + 1))) := by
  have hexec := exec_queueBatch hreq hp h (State.queueStep_keeps (s := s.popHead) rfl hkeeps)
  have hposition : (s.popHead.setSchedule (s.batch.schedule ++ [nominated p k window])).position (natAt 0 4 p) =
      s.batch.schedule.length + 1 := State.position_eq (back := []) rfl h.fresh rfl
  rw [← hposition]
  refine hexec.trans ?_
  rw [CloseStep.sequences, List.append_nil]
  rfl

/-- The close that a QUEUE_BATCH completes, with its answer (R82, R90, R92). -/
theorem exec_queueBatch_completes (hreq : s.Requests 12 f p) (hp : p.length = 23)
    (h : s.popHead.AcceptsNomination p k window) (hdevice : s.uncommissioned = false)
    (hsched : s.batch.schedule = [a]) (hc : a.closing = some c) (hcause : c.cause = .target)
    (hmark : c.decommissionMark = false) (hseq : a.seq = some seq) (hroom : s.tickets.length < 16) :
    ∃ t, exec .queueBatch s = .next t ∧ t.tickets = s.tickets ++ [s.makeTicket a .target] ∧
      t.batch.schedule = [s.successor (nominated p k window)] ∧
      t.responses = (s.answered f .done (byte 1 ++ field 4 seq ++
        field 4 (nextSequence s.batch.counter))).responses := by
  have hexec := exec_queueBatch hreq hp h
    (State.queueStep_completes (s := s.popHead) hdevice hsched hc hcause hmark hroom _)
  set q := s.popHead.setSchedule [a, nominated p k window]
  obtain ⟨d, r, hproved⟩ := State.completeClose_proved (s := q) (cause := .target) (by decide) rfl
  have hposition : (q.completeClose .target false).state.position (natAt 0 4 p) = 1 :=
    State.position_eq (front := []) (congrArg BatchUnit.schedule hproved.batch) (by simp) rfl
  have hsequences : (CloseStep.mk (q.completeClose .target false) a.seq).sequences =
      field 4 seq ++ field 4 (nextSequence s.batch.counter) := by
    rw [hseq, CloseStep.sequences, State.completeClose_opened (s := q) (by decide) hdevice rfl]
    rfl
  rw [hposition, hsequences, ← List.append_assoc] at hexec
  obtain ⟨htickets, htsched, hresponses⟩ := State.completeClose_answered (s := q) (cause := .target) (by decide) rfl
    f .done _ rfl
  exact ⟨_, hexec, htickets, htsched, hresponses⟩

/-- The close that goes on waiting for room at a QUEUE_BATCH (R82, R90). -/
theorem exec_queueBatch_waits (hreq : s.Requests 12 f p) (hp : p.length = 23)
    (h : s.popHead.AcceptsNomination p k window) (hdevice : s.uncommissioned = false)
    (hsched : s.batch.schedule = [a]) (hc : a.closing = some c) (hcause : c.cause = .target)
    (hrequest : c.requestMark = false) (hmark : c.decommissionMark = false) (hfull : 16 ≤ s.tickets.length) :
    exec .queueBatch s = .next (((s.popHead.setSchedule [a, nominated p k window]).returnCond .overTarget
      1).queueResponse f .done (byte 2)) := by
  have hexec := exec_queueBatch hreq hp h
    (State.queueStep_waits (s := s.popHead) hdevice hsched hc hcause hrequest hmark hfull _)
  have hposition : ((s.popHead.setSchedule [a, nominated p k window]).returnCond .overTarget 1).position
      (natAt 0 4 p) = 2 :=
    State.position_eq (front := [a]) (back := []) rfl (fun x hx => h.fresh x (hsched ▸ hx)) rfl
  rw [← hposition]
  refine hexec.trans ?_
  rw [CloseStep.sequences, List.append_nil]
  rfl

end

section

variable {f : Frame} {p : List Byte} {b : BatchEntry} {rest : List BatchEntry} {x seq : Nat}

/-- An AMEND_TARGET of the active batch that begins a close (R84). -/
theorem exec_amendTarget_begins (hreq : s.Requests 15 f p) (hp : p.length = 9)
    (hrange : targetInRange (optionalAt 4 4 p) = true) (hdevice : s.uncommissioned = false)
    (hsched : s.batch.schedule = b :: rest) (hb : b.nomination = natAt 0 4 p) (hclosing : b.closing = none)
    (hx : optionalAt 4 4 p = some x) (hreach : x * 1000 ≤ b.nsv) : exec .amendTarget s = .next
      (((s.popHead.setSchedule ({ b with target := some x } :: rest)).beginClose .target).amendAnswer.conclude f) := by
  have hrequest := State.request_fits hreq amendTargetRequest (by decide) (by rw [hp]; rfl)
  rw [amendTargetRequest_active (s := s.popHead) hrange hdevice hsched hb, if_neg (by simp [hclosing]),
    if_pos ⟨x, hx, hreach⟩, hx] at hrequest
  exact congrArg Host.Outcome.next hrequest

theorem CloseStep.amendAnswer_of_closed {w : Work} {opened : Nat}
    (hopened : (CloseStep.mk w (some seq)).opened = some opened) :
    (CloseStep.mk w (some seq)).amendAnswer = w.done (1 :: field 4 opened) := by
  rw [CloseStep.amendAnswer, hopened]
  rfl

/-- The close that an AMEND_TARGET completes, with its answer (R84, R92). -/
theorem State.amendAnswer_completes {next : BatchEntry} {more : List BatchEntry} (hdevice : s.uncommissioned = false)
    (hsched : s.batch.schedule = b :: next :: more) (hclosing : b.closing = none) (hseq : b.seq = some seq)
    (hroom : s.tickets.length < 16) (ht : t = (s.beginClose .target).amendAnswer.conclude f) :
    t.tickets = s.tickets ++ [s.makeTicket b .target] ∧ t.batch.schedule = s.successor next :: more ∧
      t.responses = (s.queueResponse f .done (1 :: field 4 (nextSequence s.batch.counter))).responses := by
  have hbegin := State.beginClose_of_clear (cause := .target) (State.activeBatch_eq_some.2 ⟨hdevice, _, hsched⟩)
    hclosing (State.obstaclesFor_clear.2 ⟨hroom, .inl (by simp [hsched])⟩)
  have hopened := State.completeClose_opened (cause := .target) (by decide) hdevice hsched (some seq)
  have hnot : (CloseCause.target == .decommission) = false := by decide
  rw [hbegin, hnot, hseq, CloseStep.amendAnswer_of_closed hopened, Work.conclude_done] at ht
  exact State.completeClose_answered (by decide) hsched f .done _ ht

end

/-- Settles O39: each request by its owner on its parameters, and the closes by their completion and their wait. -/
theorem queueCancelAndAmend : Obligations.QueueCancelAndAmend := by
  refine ⟨fun s f p k window hreq hp hk hwindow hn hset hlow hhigh htarget hnew hlen => ?_,
    fun s f p hreq hp => ?_, fun s f p hreq hp hout => ?_, fun s f p hreq hp hin => ?_⟩
  · have haccepts : s.popHead.AcceptsNomination p k window :=
      ⟨⟨hk, hwindow, hn, hset, within_eq_true.2 ⟨hlow, hhigh⟩, htarget⟩, hnew, hlen⟩
    refine ⟨fun hkeeps => ⟨nominated p k window, exec_queueBatch_keeps hreq hp haccepts hkeeps, rfl, rfl, rfl, rfl,
      rfl, rfl, rfl, rfl⟩, fun a c seq hdevice hsched hc hcause hrequest hmark hseq => ?_⟩
    have hdevice' := State.uncommissioned_eq_false.2 hdevice
    refine ⟨fun hroom => ?_, fun hfull hentries => ?_⟩
    · obtain ⟨t, hexec, htickets, htsched, hresponses⟩ :=
        exec_queueBatch_completes hreq hp haccepts hdevice' hsched hc hcause hmark hseq hroom
      exact ⟨t, _, _, hexec, htickets, congrArg (Option.getD · 0) hseq, rfl, htsched, rfl, rfl, rfl, hresponses⟩
    · refine ⟨_, nominated p k window,
        exec_queueBatch_waits hreq hp haccepts hdevice' hsched hc hcause hrequest hmark hfull, rfl, rfl, rfl, rfl, ?_,
        fun n hn hne => ?_, rfl⟩
      · exact congrArg CondEntry.state (State.entry_returnCond_self
          (s := s.popHead.setSchedule [a, nominated p k window]) (k := .overTarget) (i := 1)
          (show 119 - 1 < s.cond.entries.length by omega))
      · exact State.entry_returnCond_of_ne (s := s.popHead.setSchedule [a, nominated p k window])
          (k := .overTarget) (i := 1) (show n - 1 ≠ 119 - 1 by omega)
  · have hanswer : ∀ {x}, cancelBatchRequest p s.popHead = x → exec .cancelBatch s = .next (x.conclude f) :=
      fun hx => congrArg Host.Outcome.next (hx ▸ State.request_fits hreq cancelBatchRequest (by decide)
        (by rw [hp]; rfl))
    refine ⟨fun hnone => ?_, fun b rest hsched hb hdevice => ?_, fun front b back hsched hb hfront hqueued h => ?_,
      fun a b c hdevice hsched ha hb hc hcause hrequest hmark => ?_⟩
    · exact hanswer (cancelBatchRequest_not_found (s := s.popHead) hnone)
    · exact hanswer (cancelBatchRequest_active (s := s.popHead) (State.uncommissioned_eq_false.2 hdevice) hsched hb)
    · have hqueued' := hqueued.imp_right (State.uncommissioned_eq_true (s := s.popHead)).2
      have hremoved := cancelBatchRequest_queued (s := s.popHead) hsched hb hfront hqueued'
      rw [← State.standing_of_removed (s := s.popHead) hsched hqueued' h, State.followObstacles_same] at hremoved
      exact hanswer hremoved
    · have hremoved := cancelBatchRequest_queued (s := s.popHead) (front := [a]) (back := []) hsched hb
        (by simpa using ha) (.inl (by simp))
      rw [List.append_nil, State.followObstacles_of_removed (s := s.popHead) (State.uncommissioned_eq_false.2 hdevice)
        hsched hc hcause hrequest hmark] at hremoved
      exact hanswer hremoved
  · have hrange : targetInRange (optionalAt 4 4 p) = false := by
      obtain ⟨x, hx, hout⟩ := hout
      rw [hx, targetInRange, within]
      exact decide_eq_false (by omega)
    have hrefused : amendTargetRequest p s.popHead = s.popHead.refuse .refusedRange := by
      simp only [amendTargetRequest, hrange, Bool.not_false, if_true]
    exact congrArg Host.Outcome.next (State.request_answered hreq hrefused (by decide) (by rw [hp]; rfl))
  · have hanswer : ∀ {x}, amendTargetRequest p s.popHead = x → exec .amendTarget s = .next (x.conclude f) :=
      fun hx => congrArg Host.Outcome.next (hx ▸ State.request_fits hreq amendTargetRequest (by decide)
        (by rw [hp]; rfl))
    have hrange := targetInRange_of_bounds hin
    refine ⟨fun hnone => ?_, fun front b back hsched hb hfront hqueued => ?_, fun b rest hdevice hsched hb => ?_⟩
    · exact hanswer (amendTargetRequest_not_found (s := s.popHead) hrange hnone)
    · exact hanswer (amendTargetRequest_queued (s := s.popHead) hrange hsched hb hfront
        (hqueued.imp_right (State.uncommissioned_eq_true (s := s.popHead)).2))
    · have hdevice' := State.uncommissioned_eq_false.2 hdevice
      have hactive := amendTargetRequest_active (s := s.popHead) hrange hdevice' hsched hb
      refine ⟨fun hclosing => ?_, fun hclosing habove => ?_, fun x seq hclosing hx hreach hseq => ?_⟩
      · rw [if_pos hclosing] at hactive
        exact hanswer hactive
      · rw [if_neg (by simp [hclosing]), if_neg fun ⟨x, hx, hreach⟩ => Nat.not_le.2 (habove x hx) hreach] at hactive
        exact hanswer hactive
      · have hexec := exec_amendTarget_begins hreq hp hrange hdevice' hsched hb hclosing hx hreach
        refine ⟨fun next more hrest hroom => ?_, fun hobstacle => ?_⟩
        · subst hrest
          obtain ⟨htickets, htsched, hresponses⟩ := State.amendAnswer_completes (f := f)
            (s := s.popHead.setSchedule ({ b with target := some x } :: next :: more)) hdevice' rfl hclosing hseq hroom
            rfl
          exact ⟨_, _, _, hexec, htickets, congrArg (Option.getD · 0) hseq, rfl, rfl, rfl, htsched, rfl, rfl,
            hresponses⟩
        · obtain ⟨u, hbegin, hraised⟩ := State.beginClose_target_blocked
            (s := s.popHead.setSchedule ({ b with target := some x } :: rest)) hdevice' rfl hclosing hobstacle
          obtain ⟨g, hg, hbatch⟩ := hraised.schedule
          rw [hbegin] at hexec
          refine ⟨_, _, hexec, hraised.tickets, congrArg BatchUnit.schedule hbatch, ?_, ?_, ?_, ?_⟩
          · rw [hg]
          · rw [hg]
          · rw [hg]
            rfl
          · exact congrArg (· ++ _) hraised.responses

end Sys2Proof.Machine
end


section
/-!
Which figure each operation and each sample frame may write: totalizers, curve shifts, table sets, the Ticket Store
and the batch sequence counter; and that no operation loses the time-valid flag, the straps or a ticket (R27, R39,
R64, R80, R92, R101, R104, R130, R137, R180, R181, R190).
-/

namespace Sys2Proof.Machine

/-! ### What may be written -/

/-- A part of the state that only some commands write. -/
abbrev Figure := Fin 5

@[simp] abbrev Figure.totals : Figure := 0
@[simp] abbrev Figure.shifts : Figure := 1
@[simp] abbrev Figure.tables : Figure := 2
@[simp] abbrev Figure.tickets : Figure := 3
@[simp] abbrev Figure.counter : Figure := 4

/-- From one state to the next nothing outside a list of figures is written: the Ticket Store is only appended to,
the batch counter stays or, where listed, goes on by one; time-valid is not cleared, and a part out of reset keeps
its straps. -/
def State.Writes (s : State) (w : List Figure) (t : State) : Prop :=
  (.totals ∉ w → t.totals = s.totals) ∧
  (.shifts ∉ w → t.shifts = s.shifts) ∧
  (.tables ∉ w → t.tables = s.tables) ∧
  (.tickets ∉ w → ∃ more, t.tickets = s.tickets ++ more) ∧
  (t.batch.counter = s.batch.counter ∨ .counter ∈ w ∧ t.batch.counter = nextSequence s.batch.counter) ∧
  (s.mgmt.timeValid = true → t.mgmt.timeValid = true) ∧
  (s.held = false →
    t.mgmt.nodeAddress = s.mgmt.nodeAddress ∧ t.mgmt.linkRate = s.mgmt.linkRate ∧ t.held = false)

/-- The figures, time-valid and the straps: what a change of other blocks keeps. -/
def State.figures (s : State) :=
  (s.totals, s.shifts, s.tables, s.tickets, s.batch.counter, s.mgmt.timeValid, s.mgmt.nodeAddress, s.mgmt.linkRate,
    s.held)

variable {s t u : State} {v w : List Figure}

theorem State.Writes.totals (h : s.Writes w t) (hw : .totals ∉ w) : t.totals = s.totals := by
  obtain ⟨h, _⟩ := h
  exact h hw

theorem State.Writes.shifts (h : s.Writes w t) (hw : .shifts ∉ w) : t.shifts = s.shifts := by
  obtain ⟨_, h, _⟩ := h
  exact h hw

theorem State.Writes.tables (h : s.Writes w t) (hw : .tables ∉ w) : t.tables = s.tables := by
  obtain ⟨_, _, h, _⟩ := h
  exact h hw

theorem State.Writes.tickets (h : s.Writes w t) (hw : .tickets ∉ w) : ∃ more, t.tickets = s.tickets ++ more := by
  obtain ⟨_, _, _, h, _⟩ := h
  exact h hw

theorem State.Writes.counter (h : s.Writes w t) : t.batch.counter = s.batch.counter ∨
    .counter ∈ w ∧ t.batch.counter = nextSequence s.batch.counter := by
  obtain ⟨_, _, _, _, h, _⟩ := h
  exact h

theorem State.Writes.timeValid (h : s.Writes w t) (hs : s.mgmt.timeValid = true) : t.mgmt.timeValid = true := by
  obtain ⟨_, _, _, _, _, h, _⟩ := h
  exact h hs

theorem State.Writes.straps (h : s.Writes w t) (hs : s.held = false) :
    t.mgmt.nodeAddress = s.mgmt.nodeAddress ∧ t.mgmt.linkRate = s.mgmt.linkRate ∧ t.held = false := by
  obtain ⟨_, _, _, _, _, _, h⟩ := h
  exact h hs

/-- A change of other blocks of the state writes no figure. -/
theorem State.writes_of_same (h : t.figures = s.figures) : s.Writes w t := by
  simp only [State.figures, Prod.mk.injEq] at h
  obtain ⟨htotals, hshifts, htables, htickets, hcounter, htime, hnode, hrate, hheld⟩ := h
  exact ⟨fun _ => htotals, fun _ => hshifts, fun _ => htables, fun _ => ⟨[], by rw [htickets, List.append_nil]⟩,
    .inl hcounter, htime.trans, fun h => ⟨hnode, hrate, hheld.trans h⟩⟩

/-- A change that keeps the counter, time-valid and the straps writes the other figures that it does not keep. -/
theorem State.writes_of_others (htotals : .totals ∉ w → t.totals = s.totals)
    (hshifts : .shifts ∉ w → t.shifts = s.shifts) (htables : .tables ∉ w → t.tables = s.tables)
    (htickets : .tickets ∉ w → t.tickets = s.tickets)
    (hrest : (t.batch.counter, t.mgmt, t.held) = (s.batch.counter, s.mgmt, s.held)) : s.Writes w t := by
  simp only [Prod.mk.injEq] at hrest
  obtain ⟨hcounter, hmgmt, hheld⟩ := hrest
  exact ⟨htotals, hshifts, htables, fun hw => ⟨[], by rw [htickets hw, List.append_nil]⟩, .inl hcounter,
    fun h => by rw [hmgmt, h], fun h => by rw [hmgmt, hheld, h]; exact ⟨rfl, rfl, rfl⟩⟩

theorem State.Writes.refl (s : State) : s.Writes w s := State.writes_of_same rfl

theorem State.Writes.counter_eq (h : s.Writes w t) (hw : .counter ∉ w) : t.batch.counter = s.batch.counter :=
  h.counter.resolve_right fun h => hw h.1

theorem State.Writes.mono (h : s.Writes v t) (hvw : v ⊆ w) : s.Writes w t :=
  ⟨fun hw => h.totals fun hv => hw (hvw hv), fun hw => h.shifts fun hv => hw (hvw hv),
    fun hw => h.tables fun hv => hw (hvw hv), fun hw => h.tickets fun hv => hw (hvw hv),
    h.counter.imp_right fun ⟨hv, hnext⟩ => ⟨hvw hv, hnext⟩, h.timeValid, h.straps⟩

theorem State.Writes.widen (h : s.Writes [] t) : s.Writes w t := h.mono (List.nil_subset w)

/-- One change after another, where one of the two keeps the counter. -/
theorem State.Writes.append (h : s.Writes v t) (g : t.Writes w u) (hc : .counter ∉ v ∨ .counter ∉ w) :
    s.Writes (v ++ w) u := by
  have parts : ∀ {x : Figure}, x ∉ v ++ w → x ∉ v ∧ x ∉ w := fun hx =>
    not_or.1 fun hor => hx (List.mem_append.2 hor)
  refine ⟨fun hx => (g.totals (parts hx).2).trans (h.totals (parts hx).1),
    fun hx => (g.shifts (parts hx).2).trans (h.shifts (parts hx).1),
    fun hx => (g.tables (parts hx).2).trans (h.tables (parts hx).1), fun hx => ?_, ?_,
    fun hs => g.timeValid (h.timeValid hs), fun hs => ?_⟩
  · obtain ⟨x, hx⟩ := h.tickets (parts hx).1
    obtain ⟨y, hy⟩ := g.tickets (parts ‹_›).2
    exact ⟨x ++ y, by rw [hy, hx, List.append_assoc]⟩
  · obtain hv | hw := hc
    · rw [← h.counter_eq hv]
      exact g.counter.imp_right fun ⟨hw, hnext⟩ => ⟨List.mem_append_right v hw, hnext⟩
    · rw [g.counter_eq hw]
      exact h.counter.imp_right fun ⟨hv, hnext⟩ => ⟨List.mem_append_left w hv, hnext⟩
  · obtain ⟨hnode, hrate, hheld⟩ := h.straps hs
    obtain ⟨gnode, grate, gheld⟩ := g.straps hheld
    exact ⟨gnode.trans hnode, grate.trans hrate, gheld⟩

/-- A change that writes no figure comes first. -/
theorem State.Writes.trans (h : s.Writes [] t) (g : t.Writes w u) : s.Writes w u := h.append g (.inl List.not_mem_nil)

/-- A change that writes no figure comes last. -/
theorem State.Writes.andKept (h : s.Writes w t) (g : t.Writes [] u) : s.Writes w u :=
  (h.append g (.inr List.not_mem_nil)).mono (by simp)

/-! ### Raises, notices, triggers, the ends of proves and the closes of batches -/

/-- A close writes the Ticket Store, to which it appends, and may write the counter. -/
theorem State.Closed.writes (h : s.Closed t) (hc : t.batch.counter = s.batch.counter ∨
    .counter ∈ w ∧ t.batch.counter = nextSequence s.batch.counter) : s.Writes w t :=
  ⟨fun _ => h.totals, fun _ => h.shifts, fun _ => h.tables, fun _ => h.tickets, hc,
    (congrArg (·.mgmt.timeValid) h.eq).trans, fun hs => ⟨congrArg (·.mgmt.nodeAddress) h.eq,
      congrArg (·.mgmt.linkRate) h.eq, h.held.trans hs⟩⟩

theorem State.Raised.writes (h : s.Raised t) : s.Writes w t := h.toClosed.writes (.inl h.counter)

theorem State.Triggered.writes (h : s.Triggered t) : s.Writes w t := h.toClosed.writes (.inl (by rw [h.batch]))

theorem State.Proved.writes (h : s.Proved t) : s.Writes w t := h.toClosed.writes (.inl (by rw [h.batch]))

theorem State.Noted.writes (h : s.Noted t) : s.Writes w t :=
  State.writes_of_same (by
    simp only [State.figures, h.totals, h.shifts, h.tables, h.tickets, h.batch, h.mgmt, h.held])

theorem State.Writes.finish {x : Work} (h : s.Writes w x.state) : s.Writes w x.finish :=
  h.andKept x.finish_noted.writes

theorem State.setFlags_writes (s : State) (r : RunNo) (new : RunFlags) : s.Writes w (s.setFlags r new) :=
  State.Writes.trans (State.writes_of_same rfl) (s.setFlags_raised r new).writes

theorem State.judge_writes (s : State) : s.Writes w s.judge := by
  obtain ⟨d, h, -⟩ := s.judge_effect
  exact State.Writes.trans (State.writes_of_same rfl) h.writes

theorem State.mapActive_writes (s : State) (f : BatchEntry → BatchEntry) : s.Writes w (s.mapActive f) := by
  unfold State.mapActive
  split
  · exact .refl s
  · split
    · exact .refl s
    · exact State.writes_of_same rfl

theorem State.openHead_writes (s : State) : s.Writes [.counter] s.openHead.state := by
  refine s.openHead_closed.writes ?_
  cases h : s.batch.schedule with
  | nil => exact .inl (by rw [State.openHead, h]; rfl)
  | cons b rest =>
    obtain ⟨d, r, heq⟩ := State.openHead_eq h
    exact .inr ⟨.head _, by rw [heq]⟩

theorem State.clearFlags_writes (s : State) (l : List RunNo) : s.Writes w (s.clearFlags l) := by
  induction l generalizing s with
  | nil => exact .refl s
  | cons r l ih => exact (s.setFlags_writes r .clear).trans (ih _)

theorem State.detectorAfresh_writes (s : State) : s.Writes w s.detectorAfresh := by
  obtain ⟨d, h⟩ := s.detectorAfresh_eq
  rw [h]
  exact s.interfaceReturned_raised.writes.trans (State.writes_of_same rfl)

/-- The end of a decommission opens no batch (R93). -/
theorem State.decommissionComplete_writes (s : State) : s.Writes w s.decommissionComplete.state := by
  have hdevice : s.Writes [] { s with mgmt := { s.mgmt with device := .uncommissioned } } := State.writes_of_same rfl
  have hcleared : s.Writes [] _ := ((hdevice.trans (State.clearFlags_writes _ Num4.all)).trans
    (State.detectorAfresh_writes _)).trans (State.triggerAll_triggered _ .batchChange).writes
  unfold State.decommissionComplete
  dsimp only [Work.andThen, Work.map, Work.note, Work.setDevice, State.work]
  split
  · exact hcleared.trans (State.endProve_proved ..).writes
  · exact hcleared.widen

/-- A completion opens one batch at most (R91, R93). -/
theorem State.completeClose_writes (s : State) (cause : CloseCause) (mark : Bool) :
    s.Writes [.counter] (s.completeClose cause mark).state := by
  unfold State.completeClose
  split
  · exact .refl s
  · next a rest _ =>
    have hticket : s.Writes [] ({ s with tickets := s.tickets ++ [s.makeTicket a cause] }.setSchedule rest) :=
      ⟨fun _ => rfl, fun _ => rfl, fun _ => rfl, fun _ => ⟨_, rfl⟩, .inl rfl, id, fun hs => ⟨rfl, rfl, hs⟩⟩
    have hreturned : s.Writes [] _ := hticket.trans ((State.returnCond_raised _ .overTarget 1).trans
      (State.returnCond_raised _ .ticketStoreFull 1)).writes
    have succeeds : ∀ (v : State) (k : SetNo), v.Writes [.counter] (v.openHead.state.gradeCheck k).state :=
      fun v k => v.openHead_writes.andKept (State.gradeCheck_proved _ k).writes
    dsimp only [Work.andThen, Work.map, Work.note, State.work]
    split
    · exact hreturned.trans (State.decommissionComplete_writes _)
    · split
      · exact (hreturned.trans (State.writes_of_same rfl)).trans (succeeds _ _)
      · exact hreturned.trans (succeeds _ _)

theorem State.beginClose_writes (s : State) (cause : CloseCause) :
    s.Writes [.counter] (s.beginClose cause).work.state := by
  have kept : s.Writes [.counter] s := .refl s
  unfold State.beginClose
  split
  · exact kept
  · dsimp only
    split
    · exact kept
    · split
      · exact s.completeClose_writes _ _
      · exact (s.mapActive_writes _).trans (State.followObstacles_raised ..).writes

theorem State.retestClose_writes (s : State) (before : Obstacles) :
    s.Writes [.counter] (s.retestClose before).work.state := by
  have kept : s.Writes [.counter] s := .refl s
  unfold State.retestClose
  split
  · exact kept
  · split
    · exact kept
    · split
      · exact s.completeClose_writes _ _
      · exact (State.followObstacles_raised ..).writes

theorem State.targetCheck_writes (s : State) : s.Writes [.counter] s.targetCheck.state := by
  have kept : s.Writes [.counter] s := .refl s
  unfold State.targetCheck
  split
  · exact kept
  · split
    · exact kept
    · split
      · exact s.beginClose_writes _
      · exact kept

theorem State.decommissionClose_writes (s : State) : s.Writes [.counter] s.decommissionClose.work.state := by
  unfold State.decommissionClose
  split
  · exact s.beginClose_writes _
  · exact (s.mapActive_writes _).trans (State.retestClose_writes _ _)

theorem State.setRun_writes (s : State) (r : RunNo) (x : RunUnit) : s.Writes w (s.setRun r x) :=
  State.writes_of_same rfl

theorem State.closeRun_writes (s : State) (r : RunNo) : s.Writes w (s.closeRun r).state := by
  have hclosed : ∀ x : RunUnit, s.Writes [] ((s.setRun r x).clearMeteringFlags r) := fun x =>
    (s.setRun_writes r x).trans (State.setFlags_writes _ r _)
  unfold State.closeRun
  dsimp only
  split
  · exact (hclosed _).trans (State.endProve_proved ..).writes
  · exact (hclosed _).widen

theorem State.endOfFrame_writes (s : State) (r : RunNo) : s.Writes w (s.endOfFrame r).state := by
  unfold State.endOfFrame
  split
  · exact s.closeRun_writes r
  · exact .refl s

/-! ### PULSE_FRAME (R49 to R69) -/

theorem State.unbookedFrame_writes (s : State) (r : RunNo) (d : Counts) : s.Writes w (s.unbookedFrame r d) := by
  unfold State.unbookedFrame
  dsimp only
  split
  · exact (s.setRun_writes r _).trans (State.setFlags_writes _ r _)
  · exact s.setRun_writes r _

theorem State.cutoffFrame_writes (s : State) (r : RunNo) (d : Counts) : s.Writes w (s.cutoffFrame r d) :=
  (s.setRun_writes r _).trans (State.setFlags_writes _ r _)

theorem State.setTotals_writes (s : State) (r : RunNo) (x : Totals) : s.Writes [.totals] (s.setTotals r x) :=
  State.writes_of_others (fun h => absurd (.head _) h) (fun _ => rfl) (fun _ => rfl) (fun _ => rfl) rfl

/-- A booked frame writes the totalizers of its run, and its target check may open a batch (R64, R89, R101). -/
theorem State.bookFrame_writes (s : State) (r : RunNo) (b : BatchEntry) (k : Nat) (rate : Rate) (d : Counts) :
    s.Writes [.totals, .counter] (s.bookFrame r b k rate d).state := by
  unfold State.bookFrame
  extract_lets old s1 unit inp x s2 c water i deg s3 s4 carried s5
  have h1 : s.Writes [] s1 := State.writes_of_same rfl
  have h3 : s.Writes [.totals] s3 := (h1.trans (s1.setFlags_writes r _)).trans (s2.setTotals_writes r _)
  have h5 : s4.Writes [] s5 := State.writes_of_same rfl
  exact ((h3.andKept (s3.mapActive_writes _)).andKept h5).append s5.targetCheck_writes (.inl (by decide))

theorem State.decideFrame_writes (s : State) (r : RunNo) (d : Counts) (k : Nat) (rate : Rate) :
    s.Writes [.totals, .counter] (s.decideFrame r d k rate).state := by
  have hunbooked := s.unbookedFrame_writes (w := [.totals, .counter]) r d
  unfold State.decideFrame
  dsimp only
  split
  · exact hunbooked
  · split
    · exact hunbooked
    · split
      · exact s.cutoffFrame_writes r d
      · exact s.bookFrame_writes r _ k rate d

theorem State.plausibleFrame_writes (s : State) (r : RunNo) (d : Counts) :
    s.Writes [.totals, .counter] (s.plausibleFrame r d).state := by
  unfold State.plausibleFrame
  split
  · exact (s.unbookedFrame_writes r d).trans (State.endOfFrame_writes _ r)
  · have hrate : ∀ x : ChainRecord, s.Writes [] (s.setChain r x) := fun _ => State.writes_of_same rfl
    exact (((hrate _).trans (State.decideFrame_writes _ r d _ _)).andKept
      (State.reportHandOff_triggered _ r).writes).andKept (State.endOfFrame_writes _ r)

theorem usePulse_writes (f : Frame) (slot : Nat) (e : MapEntry) (c : Acceptance) (s : State) :
    s.Writes [.totals, .counter] (usePulse f slot e c s).state := by
  have hbaselines : ∀ x : Counts, s.Writes [] (s.takeBaselines slot e x) := fun _ => State.writes_of_same rfl
  unfold usePulse
  split
  · next r _ =>
    dsimp only
    split
    · exact (hbaselines _).trans (State.endOfFrame_writes _ r)
    · split
      · exact (s.occur_raised ..).writes.trans (State.endOfFrame_writes _ r)
      · exact (hbaselines _).trans (State.plausibleFrame_writes _ r _)
  all_goals exact .refl s

/-! ### VALUE_FRAME and PASS_FRAME -/

theorem State.setSlot_writes (s : State) (slot : Nat) (e : Option MapEntry) : s.Writes w (s.setSlot slot e) :=
  State.writes_of_same rfl

theorem State.updateRecord_writes (s : State) (slot : Nat) (e : MapEntry) (new : LiveRecord) :
    s.Writes w (s.updateRecord slot e new) := by
  have hrecord : s.Writes [] _ := (s.setSlot_writes slot (some { e with record := new })).trans
    (State.followRecord_raised _ slot e.record new).writes
  unfold State.updateRecord
  dsimp only
  split
  · exact hrecord.trans (State.judge_writes _)
  · exact hrecord.widen

theorem useValue_writes (f : Frame) (slot : Nat) (e : MapEntry) (c : Acceptance) (s : State) :
    s.Writes w (useValue f slot e c s).state := by
  unfold useValue
  split
  · exact .refl s
  · split
    · dsimp only [State.work]
      split
      · exact (s.updateRecord_writes slot e _).trans (State.densityHandOff_triggered _ _).writes
      · exact s.updateRecord_writes slot e _
    · exact s.updateRecord_writes slot e _

theorem State.setShift_writes (s : State) (r : RunNo) (k : SetNo) (x : Nat) : s.Writes [.shifts] (s.setShift r k x) :=
  State.writes_of_others (fun _ => rfl) (fun h => absurd (.head _) h) (fun _ => rfl) (fun _ => rfl) rfl

theorem State.applyShift_writes (s : State) (r : RunNo) (k : SetNo) (x : Nat) :
    s.Writes [.shifts] (s.applyShift r k x) := (s.setShift_writes r k x).andKept (State.mapActive_writes _ _)

theorem State.setProve_writes (s : State) (r : RunNo) (p : ProveRecord) : s.Writes w (s.setProve r p) :=
  State.writes_of_same rfl

/-- A prove writes a shift where it is applied at once (R130). -/
theorem State.completeProve_writes (s : State) (r : RunNo) (k : SetNo) (rho count : Nat) (c : ProverConfig)
    (l : List PassRecord) : s.Writes [.shifts] (s.completeProve r k rho count c l).state := by
  unfold State.completeProve
  extract_lets x deviation x' p waiting s'
  generalize x = y
  split
  · exact (s.endProve_proved ..).writes
  · split
    · exact (s.applyShift_writes r k _).andKept (State.endProve_proved ..).writes
    · exact (s.setProve_writes r _).trans (State.tryHead_proved _).writes

theorem State.takePass_writes (s : State) (r : RunNo) (c : ProverConfig) (previous : Option Nat) (p : Pass) :
    s.Writes [.shifts] (s.takePass r c previous p).state := by
  unfold State.takePass
  split
  · dsimp only
    split
    · exact (s.setProve_writes r _).trans (State.completeProve_writes ..)
    · split
      · exact (s.setProve_writes r _).trans (State.endProve_proved ..).writes
      · exact s.setProve_writes r _
  all_goals exact .refl s

theorem usePass_writes (f : Frame) (slot : Nat) (e : MapEntry) (c : Acceptance) (s : State) :
    s.Writes [.shifts] (usePass f slot e c s).state := by
  unfold usePass State.handPass
  dsimp only
  split
  · exact (s.setSlot_writes _ _).trans (State.takePass_writes ..)
  · exact (s.setSlot_writes _ _).trans (State.occur_raised ..).writes

end Sys2Proof.Machine
end


section
/-!
Which figure each request may write (R27 to R39, R80 to R93, R103, R111, R130, R137, R178 to R181).
-/

namespace Sys2Proof.Machine

variable {s t u : State} {w : List Figure}

/-! ### Dispatches -/

theorem State.popHead_writes (s : State) : s.Writes w s.popHead := State.writes_of_same rfl

theorem State.passTo_writes (s : State) (count : Nat) : s.Writes w (s.passTo count) := State.writes_of_same rfl

theorem State.appendForward_writes (s : State) (f : Frame) : s.Writes w (s.appendForward f) :=
  State.writes_of_same rfl

theorem State.whenRunning_writes {event : State → State} (h : s.Writes w (event s)) :
    s.Writes w (s.whenRunning event) := by
  unfold State.whenRunning
  split
  · exact .refl s
  · exact h

theorem State.dispatchHead_writes {use : Frame → State → State} (h : ∀ f, s.Writes w (use f s)) :
    s.Writes w (s.dispatchHead use) := by
  refine State.whenRunning_writes ?_
  split
  · exact .refl s
  · exact h _

theorem State.accept_writes (s : State) (slot : Nat) (e : MapEntry) (f : Frame) (c : Acceptance) :
    s.Writes w (s.accept slot e f c) := (s.setSlot_writes slot _).trans (s.accept_raised slot e f c).writes

/-- A sample frame writes what its use writes. -/
theorem dispatchSample_writes (kind : Byte) {use : Frame → Nat → MapEntry → Acceptance → State → Work}
    (huse : ∀ f slot e c (s : State), s.Writes w (use f slot e c s).state) (s : State) :
    s.Writes w (s.dispatchSample kind use) := by
  have point : ∀ (f : Frame) (slot : Nat) (e e' : MapEntry) (c : Acceptance),
      s.Writes w (use f slot e' c (s.popHead.accept slot e f c)).finish := fun f slot e e' c =>
    ((s.popHead_writes.trans (State.accept_writes _ slot e f c)).trans (huse f slot e' c _)).finish
  unfold State.dispatchSample
  refine State.whenRunning_writes ?_
  dsimp only
  split
  · exact .refl s
  · next f rest _ =>
    split
    · split
      · split
        · split
          · exact s.popHead_writes
          · exact point ..
        · exact s.popHead_writes.trans (State.occur_raised ..).writes
      · split
        · split
          · split
            · exact s.popHead_writes.trans (State.appendForward_writes _ f)
            · exact (point ..).andKept (State.appendForward_writes _ f)
          · exact s.popHead_writes.trans (State.appendForward_writes _ f)
        · exact .refl s
    · exact .refl s

theorem Answer.conclude_writes {a : Answer} (h : s.Writes w a.work.state) (f : Frame) :
    s.Writes w (a.conclude f) := h.finish.andKept (State.writes_of_same rfl)

theorem State.Writes.answerDone (h : s.Writes w t) (p : List Byte) : s.Writes w (t.answerDone p).work.state := h

/-- A request writes what its owner writes. -/
theorem dispatchRequest_writes {takes : Frame → Bool} {owner : Frame → State → Answer}
    (ho : ∀ f (s : State), s.Writes w (owner f s).work.state) (s : State) :
    s.Writes w (s.dispatchRequest takes owner) := by
  refine State.whenRunning_writes ?_
  split
  · next f _ =>
    split
    · exact Answer.conclude_writes (s.popHead_writes.trans (ho f _)) f
    · exact .refl s
  · exact .refl s

theorem request_writes (k : Nat) {owner : List Byte → State → Answer}
    (ho : ∀ p (s : State), s.Writes w (owner p s).work.state) (s : State) : s.Writes w (s.request k owner) :=
  dispatchRequest_writes (fun f s => by
    split
    · exact ho f.params s
    · exact .refl s) s

theorem setRunService_writes (d o : Nat) {owner : RunNo → State → Answer}
    (ho : ∀ r (s : State), s.Writes w (owner r s).work.state) (s : State) :
    s.Writes w (s.setRunService d o owner) :=
  dispatchRequest_writes (fun f s => by
    split
    · exact .refl s
    · split
      · exact .refl s
      · split
        · exact ho _ s
        · exact .refl s) s

/-- An owner that leaves the state writes nothing. -/
theorem writes_of_state_eq {owner : List Byte → State → Answer} (h : ∀ p s, (owner p s).work.state = s)
    (p : List Byte) (s : State) : s.Writes w (owner p s).work.state := (h p s).symm ▸ .refl s

/-! ### Requests to the Point Unit and the Run Units -/

theorem State.mapRole_writes (s : State) (role : Role) (f : LiveRecord → LiveRecord) :
    s.Writes w (s.mapRole role f) := by
  unfold State.mapRole
  split
  · exact s.setSlot_writes _ _
  · exact .refl s

theorem State.remapped_writes (s : State) (slot : Nat) (e : Option MapEntry) :
    s.Writes w ((s.setSlot slot e).returnLatched slot).judge :=
  ((s.setSlot_writes slot e).trans (State.returnLatched_raised _ slot).writes).trans (State.judge_writes _)

theorem mapPointRequest_writes (p : List Byte) (s : State) : s.Writes w (mapPointRequest p s).work.state := by
  have refused : ∀ r, s.Writes w (s.refuse r).work.state := fun _ => .refl s
  have maps : ∀ slot id role, s.Writes w ((s.mapSlot slot id role).answerDone (byte slot)).work.state :=
    fun slot _ _ => s.remapped_writes slot _
  unfold mapPointRequest
  dsimp only
  split
  · exact refused _
  · split
    · exact refused _
    · split
      · split
        · exact refused _
        · split
          · exact refused _
          · split
            · exact .refl s
            · exact maps ..
      · split
        · exact refused _
        · split
          · exact refused _
          · split
            · exact maps ..
            · exact refused _

theorem unmapPointRequest_writes (p : List Byte) (s : State) :
    s.Writes w (unmapPointRequest p s).work.state := by
  unfold unmapPointRequest
  split
  · exact .refl s
  · split
    · exact .refl s
    · exact s.remapped_writes _ none

theorem configureRunRequest_writes (p : List Byte) (s : State) :
    s.Writes w (configureRunRequest p s).work.state := by
  have mapped : ∀ (u : State) (q x : Role) (f g : LiveRecord → LiveRecord), s.Writes w u →
      s.Writes w ((u.mapRole q f).mapRole x g) := fun u q x f g hu =>
    (hu.andKept (u.mapRole_writes q f)).andKept (State.mapRole_writes _ x g)
  unfold configureRunRequest
  split
  · exact .refl s
  · dsimp only
    split
    · exact .refl s
    · split
      · exact .refl s
      · refine (mapped _ _ _ _ _ ?_).answerDone []
        split <;> exact State.writes_of_same rfl

theorem configureHeaderRequest_writes (p : List Byte) (s : State) :
    s.Writes w (configureHeaderRequest p s).work.state := by
  unfold configureHeaderRequest
  dsimp only
  split
  · exact .refl s
  · split
    · exact .refl s
    · have hheader : s.Writes [] { s with points := { s.points with header := headerConfigOf p } } :=
        State.writes_of_same rfl
      exact (hheader.trans (State.mapRole_writes _ _ _)).answerDone []

theorem openRun_writes (r : RunNo) (s : State) : s.Writes w (openRun r s).work.state := by
  unfold openRun
  dsimp only
  split
  · split
    · exact ((s.setRun_writes r _).trans (State.setFlags_writes _ r _)).answerDone []
    · exact .refl s
  all_goals exact s.setRun_writes r _

theorem closeRunRequest_writes (r : RunNo) (s : State) : s.Writes w (closeRunRequest r s).work.state := by
  unfold closeRunRequest
  dsimp only
  split
  · exact .refl s
  · exact .refl s
  · exact .refl s
  · exact s.closeRun_writes r
  · exact s.setRun_writes r _

/-! ### Requests to the Table Store, the Shift Table, the Totalizer Bank and the Ticket Store -/

theorem State.setTable_writes (s : State) (k : SetNo) (x : TableSet) : s.Writes [.tables] (s.setTable k x) :=
  State.writes_of_others (fun _ => rfl) (fun _ => rfl) (fun h => absurd (.head _) h) (fun _ => rfl) rfl

/-- A set replaced with its shifts reset (R29, R35, R39). -/
theorem State.replaced_writes (s : State) (k : SetNo) (x : TableSet) :
    s.Writes [.tables, .shifts] ((s.setTable k x).resetShifts k) := by
  have hshifts : (s.setTable k x).Writes [.shifts] ((s.setTable k x).resetShifts k) :=
    State.writes_of_others (fun _ => rfl) (fun h => absurd (.head _) h) (fun _ => rfl) (fun _ => rfl) rfl
  exact (s.setTable_writes k x).append hshifts (.inl (by decide))

theorem beginLoadRequest_writes (p : List Byte) (s : State) :
    s.Writes [.tables, .shifts] (beginLoadRequest p s).work.state := by
  unfold beginLoadRequest
  dsimp only
  split
  · exact .refl s
  · split
    · exact .refl s
    · split
      · exact .refl s
      · exact s.replaced_writes _ _

theorem loadSegmentRequest_writes (p : List Byte) (s : State) :
    s.Writes [.tables] (loadSegmentRequest p s).work.state := by
  unfold loadSegmentRequest
  split
  · exact .refl s
  · split
    · split
      · exact s.setTable_writes _ _
      · exact .refl s
    · exact .refl s

theorem commitSetRequest_writes (p : List Byte) (s : State) :
    s.Writes [.tables] (commitSetRequest p s).work.state := by
  unfold commitSetRequest
  dsimp only
  split
  · exact .refl s
  · split
    · exact .refl s
    · split
      · exact .refl s
      · split
        · exact .refl s
        · split
          · exact .refl s
          · exact s.setTable_writes _ _

theorem discardSetRequest_writes (p : List Byte) (s : State) :
    s.Writes [.tables, .shifts] (discardSetRequest p s).work.state := by
  unfold discardSetRequest
  split
  · exact .refl s
  · split
    · exact .refl s
    · exact s.replaced_writes _ _

theorem clearShiftRequest_writes (p : List Byte) (s : State) :
    s.Writes [.shifts] (clearShiftRequest p s).work.state := by
  unfold clearShiftRequest
  split
  · split
    · exact .refl s
    · exact s.setShift_writes _ _ _
  · exact .refl s

theorem seedTotalsRequest_writes (p : List Byte) (s : State) :
    s.Writes [.totals] (seedTotalsRequest p s).work.state := by
  unfold seedTotalsRequest
  dsimp only
  split
  · exact .refl s
  · split
    · exact .refl s
    · split
      · exact .refl s
      · exact (s.setTotals_writes _ _).andKept (State.writes_of_same rfl)

/-- A release takes a ticket out of the store, and the test of the waiting close may open a batch (R111, R112). -/
theorem releaseTicketRequest_writes (p : List Byte) (s : State) :
    s.Writes [.tickets, .counter] (releaseTicketRequest p s).work.state := by
  unfold releaseTicketRequest
  dsimp only
  split
  · exact .refl s
  · next x rest _ =>
    have hreleased : s.Writes [.tickets] { s with tickets := rest } :=
      State.writes_of_others (fun _ => rfl) (fun _ => rfl) (fun _ => rfl) (fun h => absurd (.head _) h) rfl
    split
    · exact hreleased.append (State.retestClose_writes _ _) (.inl (by decide))
    · split <;> exact .refl s

/-! ### Requests to the Batch Unit -/

theorem State.setSchedule_writes (s : State) (l : List BatchEntry) : s.Writes w (s.setSchedule l) :=
  State.writes_of_same rfl

theorem queueBatchRequest_writes (p : List Byte) (s : State) :
    s.Writes [.counter] (queueBatchRequest p s).work.state := by
  unfold queueBatchRequest
  dsimp only
  split
  · split
    · exact .refl s
    · split
      · exact .refl s
      · split
        · exact .refl s
        · exact (s.setSchedule_writes _).trans (State.retestClose_writes _ _)
  · exact .refl s

theorem cancelBatchRequest_writes (p : List Byte) (s : State) :
    s.Writes w (cancelBatchRequest p s).work.state := by
  unfold cancelBatchRequest
  split
  · exact .refl s
  · split
    · exact .refl s
    · exact (s.setSchedule_writes _).trans (State.followObstacles_raised _ _).writes

theorem amendTargetRequest_writes (p : List Byte) (s : State) :
    s.Writes [.counter] (amendTargetRequest p s).work.state := by
  have amends : ∀ l : List BatchEntry, s.Writes [.counter] ((s.setSchedule l).beginClose .target).work.state :=
    fun l => (s.setSchedule_writes l).trans (State.beginClose_writes _ _)
  unfold amendTargetRequest
  dsimp only
  split
  · exact .refl s
  · split
    · exact .refl s
    · split
      · exact s.setSchedule_writes _
      · split
        · exact .refl s
        · split
          · split
            · split
              · exact amends _
              · exact amends _
            · exact s.setSchedule_writes _
          · exact s.setSchedule_writes _

theorem closeBatchRequest_writes (p : List Byte) (s : State) :
    s.Writes [.counter] (closeBatchRequest p s).work.state := by
  unfold closeBatchRequest
  split
  · exact .refl s
  · split
    · rw [CloseStep.answer_state]
      exact s.beginClose_writes _
    · split
      · rw [CloseStep.answer_state]
        exact (s.mapActive_writes _).trans (State.retestClose_writes _ _)
      · exact .refl s

/-! ### Requests to the Prover Unit -/

theorem configureProverRequest_writes (p : List Byte) (s : State) :
    s.Writes w (configureProverRequest p s).work.state := by
  unfold configureProverRequest
  dsimp only
  split
  · exact .refl s
  · split
    · exact .refl s
    · exact State.writes_of_same rfl

theorem requestProveRequest_writes (p : List Byte) (s : State) :
    s.Writes w (requestProveRequest p s).work.state := by
  unfold requestProveRequest
  split
  · exact .refl s
  · next r _ =>
    split
    · exact .refl s
    · split
      · exact .refl s
      · have hqueued : s.Writes [] ((s.setProveQueue (s.prover.queue ++ [r])).setProve r
            { s.prove r with state := .queued }) := State.writes_of_same rfl
        exact hqueued.trans (State.tryHead_proved _).writes

theorem cancelProveRequest_writes (p : List Byte) (s : State) :
    s.Writes w (cancelProveRequest p s).work.state := by
  unfold cancelProveRequest
  split
  · exact .refl s
  · split
    · exact .refl s
    · exact .refl s
    · exact (s.endProve_proved ..).writes
    · exact (s.endProve_proved ..).writes

theorem State.onPending_writes (p : List Byte) {owner : RunNo → SetNo → ProveResult → Answer}
    (ho : ∀ r k x, s.Writes w (owner r k x).work.state) : s.Writes w (s.onPending p owner).work.state := by
  unfold State.onPending
  split
  · exact .refl s
  · split
    · exact ho ..
    all_goals exact .refl s

theorem acceptProveRequest_writes (p : List Byte) (s : State) :
    s.Writes [.shifts] (acceptProveRequest p s).work.state :=
  State.onPending_writes p fun r k x => (s.applyShift_writes r k x.shift).andKept
    (State.endProve_proved _ r .accepted none).writes

theorem rejectProveRequest_writes (p : List Byte) (s : State) :
    s.Writes w (rejectProveRequest p s).work.state :=
  State.onPending_writes p fun r _ _ => (s.endProve_proved r .rejected none).writes

/-! ### Requests to the Condition Unit, the ports, the Report Unit and the Management Unit -/

theorem acknowledgeAll_writes (l : List Nat) (s : State) : s.Writes w (acknowledgeAll l s).1 := by
  induction l generalizing s with
  | nil => exact .refl s
  | cons n l ih => exact (s.acknowledge_raised n).writes.trans (ih _)

theorem ackConditionsRequest_writes (p : List Byte) (s : State) :
    s.Writes w (ackConditionsRequest p s).work.state := by
  unfold ackConditionsRequest
  split
  · exact acknowledgeAll_writes _ s
  · dsimp only
    split
    · exact acknowledgeAll_writes _ s
    · exact .refl s
  · exact .refl s

theorem setLevelsRequest_writes (p : List Byte) (s : State) : s.Writes w (setLevelsRequest p s).work.state := by
  unfold setLevelsRequest
  dsimp only
  split
  · exact State.writes_of_same rfl
  · exact .refl s

theorem setInboundPolicyRequest_writes (p : List Byte) (s : State) :
    s.Writes w (setInboundPolicyRequest p s).work.state := by
  unfold setInboundPolicyRequest
  split
  · exact .refl s
  · exact State.writes_of_same rfl

theorem setReportingRequest_writes (p : List Byte) (s : State) :
    s.Writes w (setReportingRequest p s).work.state := by
  unfold setReportingRequest
  dsimp only
  split
  · exact State.writes_of_same rfl
  · exact .refl s

theorem setSlotPlanRequest_writes (p : List Byte) (s : State) :
    s.Writes w (setSlotPlanRequest p s).work.state := by
  unfold setSlotPlanRequest
  dsimp only
  split
  · exact .refl s
  · split
    · exact State.writes_of_same rfl
    · exact .refl s

theorem State.setDevice_writes (s : State) (d : Device) :
    s.Writes w { s with mgmt := { s.mgmt with device := d } } := State.writes_of_same rfl

theorem commissionRequest_writes (p : List Byte) (s : State) :
    s.Writes [.counter] (commissionRequest p s).work.state := by
  unfold commissionRequest
  split
  · exact .refl s
  · exact (s.setDevice_writes .measuring).trans (State.openHead_writes _)

theorem decommissionRequest_writes (p : List Byte) (s : State) :
    s.Writes [.counter] (decommissionRequest p s).work.state := by
  have hclose : s.Writes [.counter] s.endAllProves.state.decommissionClose.work.state :=
    s.endAllProves_proved.writes.trans (State.decommissionClose_writes _)
  unfold decommissionRequest
  split
  · exact .refl s
  · dsimp only
    split
    · exact hclose
    · exact hclose.andKept (State.setDevice_writes _ _)

theorem restartRequest_writes (p : List Byte) (s : State) : s.Writes w (restartRequest p s).work.state := by
  unfold restartRequest
  split
  · exact .refl s
  · exact State.writes_of_same rfl

/-- SET_TIME sets time-valid (R181). -/
theorem setTimeRequest_writes (p : List Byte) (s : State) : s.Writes w (setTimeRequest p s).work.state :=
  ⟨fun _ => rfl, fun _ => rfl, fun _ => rfl, fun _ => ⟨[], (List.append_nil _).symm⟩, .inl rfl, fun _ => rfl,
    fun hs => ⟨rfl, rfl, hs⟩⟩

end Sys2Proof.Machine
end

section
/-!
The writers of the figures, command by command: totalizers, curve shifts, table sets, tickets and the batch counter,
with time-valid and the straps (R27, R39, R80, R101, R104, R105, R130, R137, R180, R181, R190).
-/

namespace Sys2Proof.Machine

variable {s t : State} {w : List Figure}

/-! ### The other commands -/

theorem State.select_writes (s : State) : s.Writes w s.select :=
  State.writes_of_same (congrArg State.figures s.select_effect :)

theorem dispatchSlotPlan_writes (s : State) : s.Writes w s.dispatchSlotPlan := by
  refine State.whenRunning_writes ?_
  split
  · exact .refl s
  · next f _ =>
    split
    · have hanswer : s.Writes w (if lengthFits 32 f.params then setSlotPlanRequest f.params s.popHead
          else s.popHead.refuse .badLength).work.state := by
        split
        · exact s.popHead_writes.trans (setSlotPlanRequest_writes _ _)
        · exact s.popHead_writes
      generalize (if lengthFits 32 f.params then setSlotPlanRequest f.params s.popHead
          else s.popHead.refuse .badLength) = a at hanswer ⊢
      dsimp only
      split
      · exact (Answer.conclude_writes hanswer f).andKept (State.select_writes _)
      · exact Answer.conclude_writes hanswer f
    · exact .refl s

theorem State.arrive_writes (s : State) (f : Frame) : s.Writes w (s.arrive f) := by
  obtain ⟨l, h⟩ := s.arrive_effect f
  exact State.Writes.trans (State.writes_of_same rfl) h.writes

theorem execFrameEnd_writes (bytes : List Byte) (h : execFrameEnd bytes s = .next t) : s.Writes w t := by
  cases h
  refine State.whenRunning_writes ?_
  have hreception : s.Writes [] (s.setReception .none) := State.writes_of_same rfl
  split
  · exact .refl s
  · dsimp only
    split
    · exact hreception.trans (State.arrive_writes _ _)
    · exact hreception.trans (State.occur_raised ..).writes

theorem execTriggerFrame_writes (h : execTriggerFrame s = .next t) : s.Writes w t := by
  cases h
  refine State.dispatchHead_writes fun f => ?_
  have htriggered : s.Writes w (s.popHead.triggerAll .external) :=
    s.popHead_writes.trans (State.triggerAll_triggered _ _).writes
  split
  · split
    · exact htriggered
    · split
      · exact htriggered.andKept (State.appendForward_writes _ f)
      · exact .refl s
  · exact .refl s

theorem execStaleTimerExpiry_writes (slot : Nat) (h : execStaleTimerExpiry slot s = .next t) : s.Writes w t := by
  cases h
  refine State.whenRunning_writes ?_
  split
  · exact .refl s
  · split
    · exact (s.passTo_writes _).trans (State.updateRecord_writes _ slot _ _)
    · exact .refl s

theorem execHoldTimerExpiry_writes (slot : Nat) (h : execHoldTimerExpiry slot s = .next t) : s.Writes w t := by
  cases h
  refine State.whenRunning_writes ?_
  split
  · exact .refl s
  · split
    · exact (s.passTo_writes _).trans (State.updateRecord_writes _ slot _ _)
    · exact .refl s

theorem execCloseTimerExpiry_writes (r : RunNo) (h : execCloseTimerExpiry r s = .next t) : s.Writes w t := by
  cases h
  refine State.whenRunning_writes ?_
  split
  · exact ((s.passTo_writes _).trans (State.closeRun_writes _ r)).finish
  · exact .refl s

/-- The close that begins at an INTERFACE expiry may open a batch (R96). -/
theorem execInterfaceTimerExpiry_writes (h : execInterfaceTimerExpiry s = .next t) : s.Writes [.counter] t := by
  cases h
  refine State.whenRunning_writes ?_
  split
  · next e _ =>
    have hraised : s.Writes [] (((s.passTo e).setDetector .interface).raiseEntry .interface 1) :=
      State.Writes.trans (t := (s.passTo e).setDetector .interface) (State.writes_of_same rfl)
        (State.raiseEntry_raised ..).writes
    refine State.Writes.finish (State.Writes.andKept ?_ (State.countLevel3_raised _ .interface).writes)
    split_ifs
    · exact hraised.trans (State.beginClose_writes _ _)
    · exact hraised.widen
  · exact .refl s
  · exact .refl s

theorem execPassTimerExpiry_writes (h : execPassTimerExpiry s = .next t) : s.Writes w t := by
  cases h
  refine State.whenRunning_writes ?_
  split
  · exact .refl s
  · split
    · exact ((s.passTo_writes _).trans (State.endProve_proved ..).writes).finish
    all_goals exact .refl s

theorem execAcceptTimerExpiry_writes (r : RunNo) (h : execAcceptTimerExpiry r s = .next t) : s.Writes w t := by
  cases h
  refine State.whenRunning_writes ?_
  split
  · exact ((s.passTo_writes _).trans (State.endProve_proved ..).writes).finish
  all_goals exact .refl s

theorem execReportPeriodExpiry_writes (h : execReportPeriodExpiry s = .next t) : s.Writes w t := by
  cases h
  refine State.whenRunning_writes ?_
  split
  · next e _ =>
    exact ((s.passTo_writes e).trans (State.triggerAll_triggered _ .periodic).writes).andKept
      (State.writes_of_same rfl)
  · exact .refl s

theorem execDownstreamReadyChange_writes (level : Bool) (h : execDownstreamReadyChange level s = .next t) :
    s.Writes w t := by
  cases h
  have hline : s.Writes [] { s with outbound := { s.outbound with downstreamReady := level } } :=
    State.writes_of_same rfl
  split
  · exact hline.trans (State.whenRunning_writes (State.select_writes _))
  · exact hline.widen

/-- Straps are read at the end of a reset alone (R190). -/
theorem execResetEnd_writes {n : BitVec 8} {r : BitVec 2} (h : execResetEnd n r s = .next t) : s.Writes w t := by
  cases h
  split
  · next hheld =>
    exact ⟨fun _ => rfl, fun _ => rfl, fun _ => rfl, fun _ => ⟨[], (List.append_nil _).symm⟩, .inl rfl, id,
      fun hs => absurd (hheld.symm.trans hs) (by decide)⟩
  · exact .refl s

/-! ### Every command -/

/-- The figures that a command writes, a POWER_ON_RESET aside. -/
def figuresOf : Instr → List Figure
  | .pulseFrame => [.totals, .counter]
  | .passFrame | .acceptProve | .clearShift => [.shifts]
  | .beginLoad | .discardSet => [.tables, .shifts]
  | .loadSegment | .commitSet => [.tables]
  | .seedTotals => [.totals]
  | .releaseTicket => [.tickets, .counter]
  | .interfaceTimerExpiry | .queueBatch | .closeBatch | .amendTarget | .commission | .decommission => [.counter]
  | _ => []

/-- A command other than a POWER_ON_RESET writes its figures alone. -/
theorem exec_writes (c : Instr) (hc : c ≠ .powerOnReset) (h : exec c s = .next t) : s.Writes (figuresOf c) t := by
  have reads : ∀ (k : Nat) {owner : List Byte → State → Answer},
      (∀ p s, (owner p s).work.state = s) → s.Writes [] (s.request k owner) := fun k _ ho =>
    request_writes k (writes_of_state_eq ho) s
  cases c
  case powerOnReset => exact absurd rfl hc
  case resetEnd => exact execResetEnd_writes h
  case receptionStart =>
    cases h
    refine State.whenRunning_writes ?_
    split
    · exact State.writes_of_same rfl
    · exact .refl s
  case frameEnd bytes => exact execFrameEnd_writes bytes h
  case forwardDispatch =>
    cases h
    refine State.dispatchHead_writes fun f => ?_
    split
    · exact s.popHead_writes.trans (State.appendForward_writes _ f)
    · exact .refl s
  case pulseFrame => cases h; exact dispatchSample_writes _ usePulse_writes s
  case valueFrame => cases h; exact dispatchSample_writes _ useValue_writes s
  case passFrame => cases h; exact dispatchSample_writes _ usePass_writes s
  case triggerFrame => exact execTriggerFrame_writes h
  case invalidOwnFrame =>
    cases h
    refine State.dispatchHead_writes fun f => ?_
    split
    · exact s.popHead_writes.trans (State.occur_raised ..).writes
    · exact .refl s
  case staleTimerExpiry slot => exact execStaleTimerExpiry_writes slot h
  case holdTimerExpiry slot => exact execHoldTimerExpiry_writes slot h
  case closeTimerExpiry r => exact execCloseTimerExpiry_writes r h
  case interfaceTimerExpiry => exact execInterfaceTimerExpiry_writes h
  case passTimerExpiry => exact execPassTimerExpiry_writes h
  case acceptTimerExpiry r => exact execAcceptTimerExpiry_writes r h
  case reportPeriodExpiry => exact execReportPeriodExpiry_writes h
  case idleIntervalReached =>
    cases h
    refine State.whenRunning_writes ?_
    split
    · exact (s.passTo_writes _).trans (State.select_writes _)
    · exact .refl s
  case stationTimeAdvance => cases h; exact State.whenRunning_writes (State.writes_of_same rfl)
  case downstreamReadyChange level => exact execDownstreamReadyChange_writes level h
  case transmissionStart =>
    cases h
    refine State.whenRunning_writes ?_
    split
    · exact s.select_writes
    · exact .refl s
  case transmissionComplete =>
    cases h
    refine State.whenRunning_writes ?_
    split
    · exact State.Writes.trans (State.writes_of_same rfl) (State.select_writes _)
    · exact .refl s
  case unknownRequest => cases h; exact dispatchRequest_writes (fun _ s => .refl s) s
  case mapPoint => cases h; exact request_writes 1 mapPointRequest_writes s
  case unmapPoint => cases h; exact request_writes 2 unmapPointRequest_writes s
  case configureRun => cases h; exact request_writes 3 configureRunRequest_writes s
  case configureHeader => cases h; exact request_writes 4 configureHeaderRequest_writes s
  case setRunServiceOpen => cases h; exact setRunService_writes 0 1 openRun_writes s
  case setRunServiceClose => cases h; exact setRunService_writes 1 0 closeRunRequest_writes s
  case readLive => cases h; exact reads 6 readLiveRequest_state
  case beginLoad => cases h; exact request_writes 7 beginLoadRequest_writes s
  case loadSegment => cases h; exact request_writes 8 loadSegmentRequest_writes s
  case commitSet => cases h; exact request_writes 9 commitSetRequest_writes s
  case discardSet => cases h; exact request_writes 10 discardSetRequest_writes s
  case readSetInfo => cases h; exact reads 11 readSetInfoRequest_state
  case queueBatch => cases h; exact request_writes 12 queueBatchRequest_writes s
  case cancelBatch => cases h; exact request_writes 13 cancelBatchRequest_writes s
  case closeBatch => cases h; exact request_writes 14 closeBatchRequest_writes s
  case amendTarget => cases h; exact request_writes 15 amendTargetRequest_writes s
  case readSchedule => cases h; exact reads 16 readScheduleRequest_state
  case readTicket => cases h; exact reads 17 readTicketRequest_state
  case releaseTicket => cases h; exact request_writes 18 releaseTicketRequest_writes s
  case readTotals => cases h; exact reads 19 readTotalsRequest_state
  case seedTotals => cases h; exact request_writes 20 seedTotalsRequest_writes s
  case configureProver => cases h; exact request_writes 21 configureProverRequest_writes s
  case requestProve => cases h; exact request_writes 22 requestProveRequest_writes s
  case cancelProve => cases h; exact request_writes 23 cancelProveRequest_writes s
  case acceptProve => cases h; exact request_writes 24 acceptProveRequest_writes s
  case rejectProve => cases h; exact request_writes 25 rejectProveRequest_writes s
  case readProve => cases h; exact reads 26 readProveRequest_state
  case clearShift => cases h; exact request_writes 27 clearShiftRequest_writes s
  case ackConditions => cases h; exact request_writes 28 ackConditionsRequest_writes s
  case setLevels => cases h; exact request_writes 29 setLevelsRequest_writes s
  case readConditions => cases h; exact reads 30 readConditionsRequest_state
  case setInboundPolicy => cases h; exact request_writes 31 setInboundPolicyRequest_writes s
  case setSlotPlan => cases h; exact dispatchSlotPlan_writes s
  case setReporting => cases h; exact request_writes 33 setReportingRequest_writes s
  case commission => cases h; exact request_writes 34 commissionRequest_writes s
  case decommission => cases h; exact request_writes 35 decommissionRequest_writes s
  case restart => cases h; exact request_writes 36 restartRequest_writes s
  case setTime => cases h; exact request_writes 37 setTimeRequest_writes s
  case readStatus => cases h; exact reads 38 readStatusRequest_state

/-- The commands that write each figure but the counter. -/
theorem writer_of_mem_figuresOf (c : Instr) :
    (.totals ∈ figuresOf c → c = .pulseFrame ∨ c = .seedTotals) ∧
    (.shifts ∈ figuresOf c →
      c = .passFrame ∨ c = .acceptProve ∨ c = .clearShift ∨ c = .beginLoad ∨ c = .discardSet) ∧
    (.tables ∈ figuresOf c → c = .beginLoad ∨ c = .loadSegment ∨ c = .commitSet ∨ c = .discardSet) ∧
    (.tickets ∈ figuresOf c → c = .releaseTicket) := by
  unfold figuresOf
  split <;> simp

/-- Settles O12: none of the commands named writes the figure, and no command but a POWER_ON_RESET clears
time-valid or, out of reset, reads the straps. -/
theorem figuresTablesAndStrapsHaveTheirWriters : Obligations.FiguresTablesAndStrapsHaveTheirWriters := by
  refine ⟨fun c s t hpulse hseed hreset h => ?_, fun c s t hpass haccept hclear hbegin hdiscard hreset h => ?_,
    fun c s t hbegin hload hcommit hdiscard hreset h => ?_, fun c s t hreset h => (exec_writes c hreset h).timeValid,
    fun c s t hheld hreset h => (exec_writes c hreset h).straps hheld⟩ <;>
    obtain ⟨htotals, hshifts, htables, _⟩ := writer_of_mem_figuresOf c
  · exact (exec_writes c hreset h).totals fun hw => by simp_all
  · exact (exec_writes c hreset h).shifts fun hw => by simp_all
  · exact (exec_writes c hreset h).tables fun hw => by simp_all

/-- Settles O13: RELEASE_TICKET alone takes from the store, and a command opens one batch at most. -/
theorem ticketsAndBatchCounter : Obligations.TicketsAndBatchCounter := by
  refine ⟨fun c s t hrelease hreset h => ?_, fun c s t hreset h => ?_⟩
  · obtain ⟨_, _, _, htickets⟩ := writer_of_mem_figuresOf c
    exact (exec_writes c hreset h).tickets fun hw => hrelease (htickets hw)
  · exact (exec_writes c hreset h).counter.imp_right fun ⟨_, hnext⟩ => hnext

end Sys2Proof.Machine
end


section
/-!
The totalizers' roll-over, and RELEASE_TICKET and SEED_TOTALS in full (R75, R90, R92, R93, R101, R103, R111, R112).
-/

namespace Sys2Proof.Machine

variable {s t : State}

/-- Settles O34: past the top exactly one modulus is taken off. -/
theorem totalizerRollsOver : Obligations.TotalizerRollsOver := by
  intro total increment htotal hincrement
  unfold addTotal Config.totalizerTop
  split <;> omega

/-! ### The completion that ends a decommission -/

/-- A condition that stands no more is at most returned. -/
theorem State.follow_false_batch (s : State) (k : CondKind) (i : Nat) (before : Bool) :
    (s.follow k i before false).batch = s.batch := by
  cases before <;> rfl

theorem State.setFlags_clear_batch (s : State) (r : RunNo) : (s.setFlags r .clear).batch = s.batch := by
  simp only [State.setFlags, RunFlags.clear, State.follow_false_batch]
  rfl

/-- Clearing flags writes the chain and returns conditions. -/
theorem State.clearFlags_eq (s : State) (l : List RunNo) :
    ∃ chain cond, s.clearFlags l = { s with chain := chain, cond := cond } := by
  induction l generalizing s with
  | nil => exact ⟨_, _, rfl⟩
  | cons r l ih =>
    obtain ⟨chain, cond, h⟩ := ih (s.setFlags r .clear)
    have hself := (s.setFlags_raised r .clear).eq
    rw [s.setFlags_clear_batch r] at hself
    refine ⟨chain, cond, h.trans ?_⟩
    rw [hself]
    rfl

/-- The part with its device UNCOMMISSIONED and every run's flags clear (R71). -/
def State.quieted (s : State) : State :=
  State.clearFlags { s with mgmt := { s.mgmt with device := .uncommissioned } } Num4.all

theorem State.quieted_eq (s : State) : ∃ chain cond,
    s.quieted = { s with mgmt := { s.mgmt with device := .uncommissioned }, chain := chain, cond := cond } :=
  State.clearFlags_eq _ _

theorem State.decommissionComplete_proved (s : State) :
    (s.quieted.detectorAfresh.triggerAll .batchChange).Proved s.decommissionComplete.state := by
  unfold State.decommissionComplete
  dsimp only [Work.andThen, Work.map, Work.note, Work.setDevice, State.work]
  split
  · exact State.endProve_proved ..
  · exact .refl _

/-- The end of a decommission: the device UNCOMMISSIONED, the flags clear, the schedule as it stands (R71, R93). -/
theorem State.decommissionComplete_effect (s : State) :
    (∃ chain cond d reports prover, s.decommissionComplete.state = { s with
      mgmt := { s.mgmt with device := .uncommissioned }, chain := chain, cond := cond
      batch := { s.batch with detector := d }, reports := reports, prover := prover }) ∧
    ∀ r, (s.decommissionComplete.state.chainOf r).flags = .clear := by
  have hproved := s.decommissionComplete_proved
  have htriggered := s.quieted.detectorAfresh.triggerAll_triggered .batchChange
  obtain ⟨d, hafresh⟩ := s.quieted.detectorAfresh_eq
  obtain ⟨chain, cond, hquieted⟩ := s.quieted_eq
  refine ⟨⟨chain, s.quieted.interfaceReturned.cond, d, (s.quieted.detectorAfresh.triggerAll .batchChange).reports,
    s.decommissionComplete.state.prover, ?_⟩, fun r => ?_⟩
  · rw [hproved.eq, htriggered.eq, hafresh, s.quieted.interfaceReturned_eq, hquieted]
    rfl
  · have hchain : s.decommissionComplete.state.chain = s.quieted.chain := by
      rw [hproved.chain, htriggered.chain, hafresh, s.quieted.interfaceReturned_eq]
      rfl
    rw [State.chainOf, hchain]
    exact State.clearFlags_of_mem r.mem_all

/-- The completion of a close that ends a decommission opens no batch (R92, R93). -/
theorem State.completeClose_decommissions {cause : CloseCause} {mark : Bool}
    (hend : mark = true ∨ cause = .decommission) {a : BatchEntry} {rest : List BatchEntry}
    (h : s.batch.schedule = a :: rest) (ht : t = (s.completeClose cause mark).state) :
    t.tickets = s.tickets ++ [s.makeTicket a cause] ∧ t.batch.schedule = rest ∧
      t.mgmt = { s.mgmt with device := .uncommissioned } ∧ (∀ r, (t.chainOf r).flags = .clear) ∧
      t.totals = s.totals ∧ t.responses = s.responses := by
  have hcond : (mark || cause == .decommission) = true := by simpa using hend
  set p := (({ s with tickets := s.tickets ++ [s.makeTicket a cause] }.setSchedule rest).returnCond .overTarget
    1).returnCond .ticketStoreFull 1 with hp
  have hstate : (s.completeClose cause mark).state = p.decommissionComplete.state := by
    simp only [State.completeClose, h, hcond, if_true]
    rfl
  obtain ⟨⟨chain, cond, d, reports, prover, heq⟩, hflags⟩ := p.decommissionComplete_effect
  rw [hstate] at ht
  refine ⟨?_, ?_, ?_, fun r => ht ▸ hflags r, ?_, ?_⟩ <;> rw [ht, heq] <;> rfl

/-! ### RELEASE_TICKET -/

/-- The part with a given Ticket Store. -/
def State.withTickets (s : State) (l : List Ticket) : State := { s with tickets := l }

section

variable {f : Frame} {p : List Byte} {x : Ticket} {rest : List Ticket} {b : BatchEntry} {later : List BatchEntry}
  {c : ClosePending} {seq : Nat}

theorem natAt_zero_of_length {w : Nat} (hp : p.length = w) : natAt 0 w p = natOf p := by
  simpa using natAt_zero_append (q := []) hp

theorem CloseStep.releasePayload_of_waiting (w : Work) :
    (CloseStep.mk w none).releasePayload = byte w.state.tickets.length := List.append_nil _

theorem CloseStep.releasePayload_of_closed (w : Work) (seq : Nat) : (CloseStep.mk w (some seq)).releasePayload =
    byte w.state.tickets.length ++ (field 4 seq ++ optional 4 (field 4) (CloseStep.mk w (some seq)).opened ++
      byte w.state.mgmt.device.code) := rfl

/-- RELEASE_TICKET on a store that holds a ticket (R111). -/
theorem releaseTicketRequest_held (hp : p.length = 4) (ht : s.tickets = x :: rest) : releaseTicketRequest p s =
    if x.seq = natOf p then
      ((s.withTickets rest).retestClose s.standing).work.done
        ((s.withTickets rest).retestClose s.standing).releasePayload
    else if (s.ticketOf (natOf p)).isSome then s.refuse .refusedOrder else s.refuse .notFound := by
  unfold releaseTicketRequest
  rw [ht, natAt_zero_of_length hp]
  rfl

/-- The release of the oldest ticket: the test of the waiting close, and the answer (R111, R112). -/
theorem exec_releaseTicket_oldest (hreq : s.Requests 18 f p) (hp : p.length = 4) (ht : s.tickets = x :: rest)
    (hx : x.seq = natOf p) {step : CloseStep}
    (hstep : (s.popHead.withTickets rest).retestClose s.standing = step) : exec .releaseTicket s = .next
      (step.work.finish.queueResponse f .done step.releasePayload) := by
  have hrequest := State.request_fits hreq releaseTicketRequest (by decide) (by rw [hp]; rfl)
  rw [releaseTicketRequest_held (s := s.popHead) hp ht, if_pos hx] at hrequest
  subst hstep
  exact congrArg Host.Outcome.next hrequest

theorem releaseTicketRequest_empty (ht : s.tickets = []) : releaseTicketRequest p s = s.refuse .notFound := by
  unfold releaseTicketRequest
  rw [ht]

/-- A ticket other than the oldest is refused, by whether it is held (R111). -/
theorem releaseTicketRequest_other (hp : p.length = 4) (ht : s.tickets = x :: rest) (hx : x.seq ≠ natOf p) :
    releaseTicketRequest p s =
      if ∃ y ∈ rest, y.seq = natOf p then s.refuse .refusedOrder else s.refuse .notFound := by
  have hheld : (s.ticketOf (natOf p)).isSome = true ↔ ∃ y ∈ rest, y.seq = natOf p := by
    simp [State.ticketOf, ht, hx]
  rw [releaseTicketRequest_held hp ht, if_neg hx]
  exact if_congr hheld rfl rfl

/-- The step of a waiting close at a release that leaves it no obstacle (R90). -/
theorem State.releaseStep_completes (hdevice : s.uncommissioned = false) (hsched : s.batch.schedule = b :: later)
    (hc : b.closing = some c) (hseq : b.seq = some seq) (hroom : rest.length < 16)
    (hready : c.decommissionMark = true ∨ c.cause ≠ .target ∨ c.requestMark = true ∨ later ≠ [])
    (before : Obstacles) : (s.withTickets rest).retestClose before =
      ⟨(s.withTickets rest).completeClose c.cause c.decommissionMark, some seq⟩ := by
  have hstanding : (s.withTickets rest).standing = ⟨false, false⟩ := by
    rw [State.standing_of_closing (s := s.withTickets rest) hdevice hsched hc]
    congr 1
    · exact decide_eq_false (Nat.not_le.2 hroom)
    · obtain h | h | h | h := hready <;> simp [h]
  rw [State.retestClose_of_pending (s := s.withTickets rest)
    (State.activeBatch_eq_some.2 ⟨hdevice, later, hsched⟩) hc, hstanding, hseq]
  rfl

/-- A close at its target without a successor goes on waiting: the full store at most is returned (R90). -/
theorem State.releaseStep_waits (hdevice : s.uncommissioned = false) (hsched : s.batch.schedule = [b])
    (hc : b.closing = some c) (hroom : rest.length < 16) (hcause : c.cause = .target) (hrequest : c.requestMark = false)
    (hmark : c.decommissionMark = false) : ∃ full, (s.withTickets rest).retestClose s.standing =
      ⟨((s.withTickets rest).follow .ticketStoreFull 1 full false).work, none⟩ := by
  have hneeds : (([] : List BatchEntry).isEmpty && c.cause == .target && !c.requestMark && !c.decommissionMark) =
      true := by rw [hcause, hrequest, hmark]; rfl
  have hbefore := State.standing_of_closing hdevice hsched hc
  have hafter := State.standing_of_closing (s := s.withTickets rest) hdevice hsched hc
  rw [hneeds] at hbefore hafter
  rw [show decide (16 ≤ (s.withTickets rest).tickets.length) = false from
    decide_eq_false (Nat.not_le.2 hroom)] at hafter
  refine ⟨s.standing.room, ?_⟩
  rw [State.retestClose_of_pending (s := s.withTickets rest)
    (State.activeBatch_eq_some.2 ⟨hdevice, [], hsched⟩) hc, State.followObstacles, hafter, hbefore,
    State.follow_same]
  rfl

/-- The release at which a waiting close completes and opens its successor (R90, R112). -/
theorem exec_releaseTicket_completes (hreq : s.Requests 18 f p) (hp : p.length = 4) (ht : s.tickets = x :: rest)
    (hx : x.seq = natOf p) (hdevice : s.uncommissioned = false) (hsched : s.batch.schedule = b :: later)
    (hc : b.closing = some c) (hseq : b.seq = some seq) (hroom : rest.length < 16)
    (hmark : c.decommissionMark = false) (hcause : c.cause ≠ .decommission)
    (hready : c.cause ≠ .target ∨ c.requestMark = true ∨ later ≠ []) :
    ∃ t, exec .releaseTicket s = .next t ∧ t.tickets = rest ++ [s.makeTicket b c.cause] ∧
      t.batch.schedule = s.successor (later.headD b.unnominated) :: later.tail ∧ t.mgmt = s.mgmt ∧
      t.totals = s.totals ∧ t.responses = (s.answered f .done (byte (rest.length + 1) ++ field 4 seq ++
        (1 :: field 4 (nextSequence s.batch.counter)) ++ byte s.mgmt.device.code)).responses := by
  have hexec := exec_releaseTicket_oldest hreq hp ht hx
    (State.releaseStep_completes (s := s.popHead) hdevice hsched hc hseq hroom (.inr hready) s.standing)
  set q := s.popHead.withTickets rest
  rw [hmark] at hexec
  obtain ⟨d, r, hproved⟩ := State.completeClose_proved (s := q) hcause hsched
  have hnoted := (q.completeClose c.cause false).finish_noted
  obtain ⟨htickets, htsched, hresponses⟩ := State.completeClose_answered (s := q) hcause hsched f .done _ rfl
  refine ⟨_, hexec, htickets, htsched, hnoted.mgmt.trans hproved.mgmt, hnoted.totals.trans hproved.totals, ?_⟩
  have hcount : (q.completeClose c.cause false).state.tickets.length = rest.length + 1 := by
    rw [hproved.tickets]
    exact List.length_append
  have hpayload : (CloseStep.mk (q.completeClose c.cause false) (some seq)).releasePayload =
      byte (rest.length + 1) ++ field 4 seq ++ (1 :: field 4 (nextSequence s.batch.counter)) ++
        byte s.mgmt.device.code := by
    rw [CloseStep.releasePayload_of_closed, State.completeClose_opened (s := q) hcause hdevice hsched, hcount,
      hproved.mgmt, ← List.append_assoc, ← List.append_assoc]
    rfl
  rw [← hpayload]
  exact hresponses

/-- The release at which the close of a decommission completes (R93, R112). -/
theorem exec_releaseTicket_decommissions (hreq : s.Requests 18 f p) (hp : p.length = 4) (ht : s.tickets = x :: rest)
    (hx : x.seq = natOf p) (hdevice : s.uncommissioned = false) (hsched : s.batch.schedule = b :: later)
    (hc : b.closing = some c) (hseq : b.seq = some seq) (hroom : rest.length < 16)
    (hend : c.decommissionMark = true ∨ c.cause = .decommission) :
    ∃ t, exec .releaseTicket s = .next t ∧ t.tickets = rest ++ [s.makeTicket b c.cause] ∧
      t.batch.schedule = later ∧ t.mgmt = { s.mgmt with device := .uncommissioned } ∧
      (∀ r, (t.chainOf r).flags = .clear) ∧ t.totals = s.totals ∧
      t.responses = (s.answered f .done (byte (rest.length + 1) ++ field 4 seq ++ List.replicate 5 0 ++
        byte 0)).responses := by
  have hready : c.decommissionMark = true ∨ c.cause ≠ .target ∨ c.requestMark = true ∨ later ≠ [] :=
    hend.imp_right fun h => .inl (by rw [h]; decide)
  have hexec := exec_releaseTicket_oldest hreq hp ht hx
    (State.releaseStep_completes (s := s.popHead) hdevice hsched hc hseq hroom hready s.standing)
  set q := s.popHead.withTickets rest
  set w := q.completeClose c.cause c.decommissionMark with hw
  obtain ⟨htickets, htsched, hmgmt, hflags, htotals, hresponses⟩ :=
    State.completeClose_decommissions (s := q) hend hsched rfl
  rw [← hw] at htickets htsched hmgmt hflags htotals hresponses
  have hnoted := w.finish_noted
  refine ⟨_, hexec, hnoted.tickets.trans htickets, (congrArg BatchUnit.schedule hnoted.batch).trans htsched,
    hnoted.mgmt.trans hmgmt, fun r => ?_, hnoted.totals.trans htotals, ?_⟩
  · rw [← hflags r]
    exact congrArg (fun l => ChainRecord.flags (l.get r)) hnoted.chain
  · have hcount : w.state.tickets.length = rest.length + 1 := by
      rw [htickets]
      exact List.length_append
    have hopened : (CloseStep.mk w (some seq)).opened = none := by
      have hnone : w.state.activeBatch = none := if_pos (by rw [State.uncommissioned, hmgmt]; rfl)
      rw [CloseStep.opened, hnone]
      rfl
    have hpayload : (CloseStep.mk w (some seq)).releasePayload =
        byte (rest.length + 1) ++ field 4 seq ++ List.replicate 5 0 ++ byte 0 := by
      rw [CloseStep.releasePayload_of_closed, hopened, hcount, hmgmt, ← List.append_assoc, ← List.append_assoc]
      rfl
    rw [← hpayload, State.queueResponse_responses, hnoted.responses, hresponses]
    rfl

/-- The release at which a close goes on waiting for a successor (R90, R111). -/
theorem exec_releaseTicket_waits (hreq : s.Requests 18 f p) (hp : p.length = 4) (ht : s.tickets = x :: rest)
    (hx : x.seq = natOf p) (hdevice : s.uncommissioned = false) (hsched : s.batch.schedule = [b])
    (hc : b.closing = some c) (hroom : rest.length < 16) (hcause : c.cause = .target) (hrequest : c.requestMark = false)
    (hmark : c.decommissionMark = false) :
    ∃ t, exec .releaseTicket s = .next t ∧ t.tickets = rest ∧ t.batch = s.batch ∧ t.mgmt = s.mgmt ∧
      t.totals = s.totals ∧ t.responses = (s.answered f .done (byte rest.length)).responses := by
  obtain ⟨full, hstep⟩ := State.releaseStep_waits (s := s.popHead) hdevice hsched hc hroom hcause hrequest hmark
  have hexec := exec_releaseTicket_oldest hreq hp ht hx hstep
  have hraised := (s.popHead.withTickets rest).follow_raised .ticketStoreFull 1 full false
  refine ⟨_, hexec, hraised.tickets, State.follow_false_batch .., hraised.mgmt, hraised.totals, ?_⟩
  have hpayload : (CloseStep.mk ((s.popHead.withTickets rest).follow .ticketStoreFull 1 full false).work
      none).releasePayload = byte rest.length := by
    rw [CloseStep.releasePayload_of_waiting]
    exact congrArg (fun l => byte l.length) hraised.tickets
  rw [hpayload, State.queueResponse_responses]
  exact congrArg (· ++ _) hraised.responses

end

/-! ### SEED_TOTALS -/

section

variable {p : List Byte} {r : RunNo}

/-- The four values of a SEED_TOTALS. -/
def seededTotals (p : List Byte) : Totals :=
  ⟨(intAt 1 8 p).toNat, (intAt 9 8 p).toNat, (intAt 17 8 p).toNat, (intAt 25 8 p).toNat⟩

/-- The values of a SEED_TOTALS lie in the range of a totalizer (R100). -/
def SeedsInRange (p : List Byte) : Prop :=
  ∀ i ∈ [0, 1, 2, 3], 0 ≤ intAt (1 + 8 * i) 8 p ∧ intAt (1 + 8 * i) 8 p ≤ 9999999999999999

theorem seedsInRange_iff : SeedsInRange p ↔
    ([0, 1, 2, 3].all fun i => withinInt 0 Config.totalizerTop (intAt (1 + 8 * i) 8 p)) = true := by
  simp only [SeedsInRange, List.all_eq_true, withinInt_eq_true]
  rfl

theorem seedTotalsRequest_out_of_range (h : runAt 0 p = none ∨ ¬ SeedsInRange p) :
    seedTotalsRequest p s = s.refuse .refusedRange := by
  unfold seedTotalsRequest
  split
  · rfl
  · next hr =>
    have hout : ¬ SeedsInRange p := h.resolve_left (by rw [hr]; exact nofun)
    exact if_pos (Bool.not_eq_true' _ ▸ Bool.eq_false_iff.2 fun hin => hout (seedsInRange_iff.2 hin))

/-- With its run and values in range a SEED_TOTALS is refused but of an UNCOMMISSIONED part, where it sets the four
totalizers and zeroes the residues (R75, R103). -/
theorem seedTotalsRequest_in_range (hr : runAt 0 p = some r) (h : SeedsInRange p) : seedTotalsRequest p s =
    if s.uncommissioned = true then
      ((s.setTotals r (seededTotals p)).setChain r (s.chainOf r).zeroResidues).answerDone (seededTotals p).bytes
    else s.refuse .refusedState := by
  unfold seedTotalsRequest
  rw [hr]
  refine (if_neg (by rw [seedsInRange_iff.1 h]; decide)).trans ?_
  cases s.uncommissioned <;> rfl

theorem seededTotals_bytes (h : SeedsInRange p) : (seededTotals p).bytes = signedField 8 (intAt 1 8 p) ++
    signedField 8 (intAt 9 8 p) ++ signedField 8 (intAt 17 8 p) ++ signedField 8 (intAt 25 8 p) := by
  obtain ⟨h0, h1, h2, h3⟩ : 0 ≤ intAt 1 8 p ∧ 0 ≤ intAt 9 8 p ∧ 0 ≤ intAt 17 8 p ∧ 0 ≤ intAt 25 8 p :=
    ⟨(h 0 (by decide)).1, (h 1 (by decide)).1, (h 2 (by decide)).1, (h 3 (by decide)).1⟩
  simp only [Totals.bytes, seededTotals, Int.toNat_of_nonneg h0, Int.toNat_of_nonneg h1, Int.toNat_of_nonneg h2,
    Int.toNat_of_nonneg h3]

end

/-- Settles O43: the oldest ticket by the test of the waiting close at its release, any other by its refusal; and
SEED_TOTALS by its owner on its parameters. -/
theorem releaseTicketAndSeedTotals : Obligations.ReleaseTicketAndSeedTotals := by
  refine ⟨fun s f p hreq hp => ?_, fun s f p hreq hp => ?_⟩
  · have hrefused : ∀ {y}, releaseTicketRequest p s.popHead = s.popHead.refuse y →
        exec .releaseTicket s = .next (s.answered f y []) := fun hy =>
      congrArg Host.Outcome.next (State.request_answered hreq hy (by decide) (by rw [hp]; rfl))
    refine ⟨fun ht => hrefused (releaseTicketRequest_empty (s := s.popHead) ht), fun x rest ht =>
      ⟨fun hx hpending => ?_, fun hx hheld => ?_, fun hx hnone => ?_,
        fun b later c seq hx hdevice hsched hc hseq hroom => ⟨fun hmark hcause hready => ?_, fun hend => ?_,
          fun hcause hrequest hmark hlater => ?_⟩⟩⟩
    · have hexec := exec_releaseTicket_oldest hreq hp ht hx
        (State.retestClose_of_not_pending (s := s.popHead.withTickets rest) hpending s.standing)
      rw [CloseStep.releasePayload_of_waiting] at hexec
      exact hexec
    · have hother := releaseTicketRequest_other (s := s.popHead) hp ht hx
      rw [if_pos hheld] at hother
      exact hrefused hother
    · have hother := releaseTicketRequest_other (s := s.popHead) hp ht hx
      rw [if_neg fun ⟨y, hy, hseq⟩ => hnone y hy hseq] at hother
      exact hrefused hother
    · obtain ⟨t, hexec, htickets, htsched, hrest⟩ := exec_releaseTicket_completes hreq hp ht hx
        (State.uncommissioned_eq_false.2 hdevice) hsched hc hseq hroom hmark hcause hready
      exact ⟨t, _, _, hexec, htickets, congrArg (Option.getD · 0) hseq, rfl, htsched, rfl, rfl, hrest⟩
    · obtain ⟨t, hexec, htickets, hrest⟩ := exec_releaseTicket_decommissions hreq hp ht hx
        (State.uncommissioned_eq_false.2 hdevice) hsched hc hseq hroom hend
      exact ⟨t, _, hexec, htickets, congrArg (Option.getD · 0) hseq, rfl, hrest⟩
    · exact exec_releaseTicket_waits hreq hp ht hx (State.uncommissioned_eq_false.2 hdevice) (hlater ▸ hsched) hc
        hroom hcause hrequest hmark
  · have hanswer : ∀ {y}, seedTotalsRequest p s.popHead = y → exec .seedTotals s = .next (y.conclude f) :=
      fun hy => congrArg Host.Outcome.next (hy ▸ State.request_fits hreq seedTotalsRequest (by decide)
        (by rw [hp]; rfl))
    refine ⟨fun hbad => ?_, fun r hr hin => ⟨fun hdevice => ?_, fun hdevice => ?_⟩⟩
    · refine hanswer (y := s.popHead.refuse .refusedRange) ?_
      refine seedTotalsRequest_out_of_range (hbad.imp_right fun ⟨i, hi, hout⟩ hin => ?_)
      have := hin i hi
      omega
    · have hseed := seedTotalsRequest_in_range (s := s.popHead) hr hin
      rw [if_neg (Bool.eq_false_iff.1 (State.uncommissioned_eq_false (s := s.popHead) |>.2 hdevice))] at hseed
      exact hanswer hseed
    · have hseed := seedTotalsRequest_in_range (s := s.popHead) hr hin
      rw [if_pos (State.uncommissioned_eq_true (s := s.popHead) |>.2 hdevice), seededTotals_bytes hin] at hseed
      exact hanswer hseed

end Sys2Proof.Machine
end

section
/-!
The order of the prover (R115, R116): what each operation and each sample frame keeps of it. An ACTIVE prove that
ends leaves the queue without one ahead of it, and the try of the queue puts that right (R119).
-/

namespace Sys2Proof.Machine

variable {s t u : State}

/-! ### The order with the prover free -/

/-- `State.ProverOrdered` without its last clause: no prove need be ACTIVE ahead of the queue. -/
def State.ProverQueued (s : State) : Prop :=
  s.prover.queue.Nodup ∧ (∀ r, r ∈ s.prover.queue ↔ (s.prove r).state = .queued) ∧
  ∀ r q, (s.prove r).state.isActive = true → (s.prove q).state.isActive = true → r = q

theorem State.ProverQueued.once (h : s.ProverQueued) : s.prover.queue.Nodup := by
  obtain ⟨h, _, _⟩ := h
  exact h

theorem State.ProverQueued.queued (h : s.ProverQueued) (r : RunNo) :
    r ∈ s.prover.queue ↔ (s.prove r).state = .queued := by
  obtain ⟨_, h, _⟩ := h
  exact h r

theorem State.ProverQueued.single (h : s.ProverQueued) {r q : RunNo} (hr : (s.prove r).state.isActive = true)
    (hq : (s.prove q).state.isActive = true) : r = q := by
  obtain ⟨_, _, h⟩ := h
  exact h r q hr hq

theorem State.ProverOrdered.toQueued (h : s.ProverOrdered) : s.ProverQueued := ⟨h.once, h.queued, h.single⟩

theorem State.ProverQueued.ordered (h : s.ProverQueued)
    (hb : s.prover.queue ≠ [] → ∃ r, (s.prove r).state.isActive = true) : s.ProverOrdered :=
  ⟨h.once, h.queued, fun _ _ => h.single, hb⟩

theorem State.ProverOrdered.of_prover (h : s.ProverOrdered) (hp : t.prover = s.prover) : t.ProverOrdered := by
  have hprove := State.prove_congr hp
  refine ⟨by rw [hp]; exact h.once, fun r => by rw [hp, hprove]; exact h.queued r,
    fun r q => by rw [hprove, hprove]; exact h.single r q, fun hne => ?_⟩
  rw [hp] at hne
  exact (h.behind hne).imp fun r hr => by rw [hprove]; exact hr

theorem State.activeProve_isSome : s.activeProve.isSome = true ↔ ∃ r, (s.prove r).state.isActive = true := by
  rw [Option.isSome_iff_ne_none, ne_eq, State.activeProve_eq_none]
  simp

theorem State.isActive_of_activeProve {r : RunNo} (h : s.activeProve = some r) :
    (s.prove r).state.isActive = true := by
  rw [State.activeProve] at h
  exact List.find?_some (p := fun r => (s.prove r).state.isActive) h

/-- A state with another prove record of one run, and another queue. -/
def State.reproved (s : State) (r : RunNo) (p : ProveRecord) (queue : List RunNo) : State :=
  (s.setProve r p).setProveQueue queue

theorem State.prove_reproved (s : State) (r : RunNo) (p : ProveRecord) (queue : List RunNo) (q : RunNo) :
    (s.reproved r p queue).prove q = if q = r then p else s.prove q := by
  split
  · next h => subst h; exact State.prove_setProve_self s q p
  · next h => exact State.prove_setProve_of_ne s p h

/-- One run's record is replaced and the queue follows it: the new queue lists the other runs as before, and that run
exactly where its record is QUEUED; and where its record is ACTIVE no other is. -/
theorem State.ProverQueued.reproved (h : s.ProverQueued) {r : RunNo} {p : ProveRecord} {queue : List RunNo}
    (honce : queue.Nodup) (hother : ∀ q, q ≠ r → (q ∈ queue ↔ q ∈ s.prover.queue))
    (hself : r ∈ queue ↔ p.state = .queued)
    (hsingle : p.state.isActive = true → ∀ q, q ≠ r → (s.prove q).state.isActive = false) :
    (s.reproved r p queue).ProverQueued := by
  refine ⟨honce, fun q => ?_, fun q q' hq hq' => ?_⟩
  · rw [State.prove_reproved]
    split
    · next e => subst e; exact hself
    · next e => exact (hother q e).trans (h.queued q)
  · rw [State.prove_reproved] at hq hq'
    split at hq <;> split at hq'
    · next e e' => exact e.trans e'.symm
    · next e' => exact absurd hq' (by rw [hsingle hq q' e']; decide)
    · next e _ => exact absurd hq (by rw [hsingle hq' q e]; decide)
    · exact h.single hq hq'

/-! ### The end of a prove, and the try of the queue (R116, R119) -/

theorem State.ProverQueued.endRecord (h : s.ProverQueued) (r : RunNo) (o : ProveOutcome)
    (x : Option ProveResult) : (s.endRecord r o x).state.ProverQueued :=
  h.reproved (h.once.filter _) (fun q hq => by simp [hq]) (by simp) (by simp [ProveState.isActive])

/-- The queue is tried with the prover free: a prove becomes ACTIVE ahead of the rest, or nobody waits. -/
theorem tryQueue_ordered {l : List RunNo} (h : s.ProverQueued) (hl : s.prover.queue = l)
    (hfree : ∀ r, (s.prove r).state.isActive = false) : (tryQueue l s).state.ProverOrdered := by
  induction l generalizing s with
  | nil =>
    have hsame : (tryQueue [] s).state.prover = s.prover := by
      show { s.prover with queue := [] } = s.prover
      rw [← hl]
    exact (h.ordered fun hne => absurd hl hne).of_prover hsame
  | cons r rest ih =>
    obtain ⟨hr, hrest⟩ := List.nodup_cons.1 (hl ▸ h.once)
    unfold tryQueue
    split
    · next b c _ _ _ =>
      refine (h.reproved (r := r) hrest (fun q hq => by simp [hl, hq]) ?_ fun _ q _ => hfree q).ordered
        fun _ => ⟨r, ?_⟩
      · exact ⟨fun hmem => absurd hmem hr, nofun⟩
      · rw [State.prove_reproved, if_pos rfl]
        rfl
    · refine ih (h.endRecord r .notFlowing none) ?_ fun q => ?_
      · show s.prover.queue.filter _ = rest
        rw [hl, List.filter_cons_of_neg (by simp)]
        exact List.filter_eq_self.2 fun q hq => by simpa using fun e : q = r => hr (e ▸ hq)
      · by_cases hq : q = r
        · rw [hq, State.endRecord_prove_self]
          rfl
        · rw [State.endRecord_prove_of_ne hq]
          exact hfree q

theorem State.ProverQueued.tryHead (h : s.ProverQueued) : s.tryHead.state.ProverOrdered := by
  unfold State.tryHead
  split
  · next hactive => exact h.ordered fun _ => State.activeProve_isSome.1 hactive
  · next hfree =>
    exact tryQueue_ordered h rfl (State.activeProve_eq_none.1 (by simpa using hfree))

/-- A prove that is not ACTIVE ends behind the ACTIVE one, if any. -/
theorem State.ProverOrdered.endRecord (h : s.ProverOrdered) {r : RunNo}
    (hidle : (s.prove r).state.isActive = false) (o : ProveOutcome) (x : Option ProveResult) :
    (s.endRecord r o x).state.ProverOrdered := by
  refine (h.toQueued.endRecord r o x).ordered fun hne => ?_
  have hqueue : s.prover.queue ≠ [] := fun hnil => hne (by
    show s.prover.queue.filter _ = []
    rw [hnil]
    rfl)
  obtain ⟨q, hq⟩ := h.behind hqueue
  have hqr : q ≠ r := fun e => by
    rw [e, hidle] at hq
    cases hq
  exact ⟨q, by rw [State.endRecord_prove_of_ne hqr]; exact hq⟩

theorem State.ProverOrdered.endProve (h : s.ProverOrdered) (r : RunNo) (o : ProveOutcome)
    (x : Option ProveResult) : (s.endProve r o x).state.ProverOrdered := by
  unfold State.endProve
  dsimp only
  split
  · exact (h.toQueued.endRecord r o x).tryHead
  · next hidle => exact h.endRecord (by simpa using hidle) o x

/-- The proves of a list of runs end, in its order (R134). -/
def Work.endProves (w : Work) (l : List RunNo) : Work :=
  l.foldl (fun w r => w.andThen fun s =>
    if (s.prove r).state = .none then s.work else s.endRecord r .abortedDecommission none) w

theorem Work.endProves_queued {w : Work} (h : w.state.ProverQueued) (l : List RunNo) :
    (w.endProves l).state.ProverQueued := by
  induction l generalizing w with
  | nil => exact h
  | cons r l ih =>
    refine ih ?_
    show (if (w.state.prove r).state = .none then w.state.work
      else w.state.endRecord r .abortedDecommission none).state.ProverQueued
    split
    · exact h
    · exact h.endRecord ..

theorem Work.endProves_of_none {w : Work} {q : RunNo} (h : (w.state.prove q).state = .none) (l : List RunNo) :
    ((w.endProves l).state.prove q).state = .none := by
  induction l generalizing w with
  | nil => exact h
  | cons r l ih =>
    refine ih ?_
    show ((if (w.state.prove r).state = .none then w.state.work
      else w.state.endRecord r .abortedDecommission none).state.prove q).state = .none
    split
    · exact h
    · by_cases hq : q = r
      · rw [hq, State.endRecord_prove_self]
      · rw [State.endRecord_prove_of_ne hq]
        exact h

theorem Work.endProves_of_mem {w : Work} {q : RunNo} {l : List RunNo} (h : q ∈ l) :
    ((w.endProves l).state.prove q).state = .none := by
  induction l generalizing w with
  | nil => cases h
  | cons r l ih =>
    obtain rfl | hmem := List.mem_cons.1 h
    · refine Work.endProves_of_none ?_ l
      show ((if (w.state.prove q).state = .none then w.state.work
        else w.state.endRecord q .abortedDecommission none).state.prove q).state = .none
      split
      · next hnone => exact hnone
      · rw [State.endRecord_prove_self]
    · exact ih hmem

/-- With every prove ended nobody waits (R134). -/
theorem State.ProverQueued.endAllProves (h : s.ProverQueued) : s.endAllProves.state.ProverOrdered := by
  have hqueued : s.endAllProves.state.ProverQueued :=
    Work.endProves_queued (w := s.work) h (s.prover.queue ++ Num4.all)
  refine hqueued.ordered fun hne => ?_
  obtain ⟨q, hq⟩ := List.exists_mem_of_ne_nil _ hne
  have hnone : (s.endAllProves.state.prove q).state = .none :=
    Work.endProves_of_mem (w := s.work) (List.mem_append_right _ q.mem_all)
  exact absurd ((hqueued.queued q).1 hq) (by rw [hnone]; exact nofun)

/-- A record takes another state with the queue as it stands: neither is QUEUED, and where the new one is ACTIVE the
old one was. -/
theorem State.ProverQueued.setProve (h : s.ProverQueued) {r : RunNo} {p : ProveRecord}
    (hold : (s.prove r).state ≠ .queued) (hnew : p.state ≠ .queued)
    (hactive : p.state.isActive = true → (s.prove r).state.isActive = true) :
    (s.setProve r p).ProverQueued :=
  h.reproved (queue := s.prover.queue) h.once (fun _ _ => .rfl)
    ⟨fun hr => absurd ((h.queued r).1 hr) hold, fun hp => absurd hp hnew⟩
    fun hp _ hq => Bool.eq_false_iff.2 fun hactive' => hq (h.single hactive' (hactive hp))

/-! ### Keeping the order -/

/-- The prover in order in one state is in order in the next one. -/
def State.KeepsOrder (s t : State) : Prop := s.ProverOrdered → t.ProverOrdered

theorem State.KeepsOrder.refl (s : State) : s.KeepsOrder s := id

theorem State.KeepsOrder.trans (h : s.KeepsOrder t) (g : t.KeepsOrder u) : s.KeepsOrder u := fun hs => g (h hs)

/-- A change outside the Prover Unit. -/
theorem State.keepsOrder_of_prover (h : t.prover = s.prover) : s.KeepsOrder t :=
  fun hs => hs.of_prover h

theorem State.Raised.keepsOrder (h : s.Raised t) : s.KeepsOrder t := State.keepsOrder_of_prover h.prover

theorem State.Noted.keepsOrder (h : s.Noted t) : s.KeepsOrder t := State.keepsOrder_of_prover h.prover

theorem State.Triggered.keepsOrder (h : s.Triggered t) : s.KeepsOrder t := State.keepsOrder_of_prover h.prover

theorem State.KeepsOrder.finish {w : Work} (h : s.KeepsOrder w.state) : s.KeepsOrder w.finish :=
  h.trans w.finish_noted.keepsOrder

theorem State.endProve_keepsOrder (s : State) (r : RunNo) (o : ProveOutcome) (x : Option ProveResult) :
    s.KeepsOrder (s.endProve r o x).state := fun h => h.endProve r o x

theorem State.gradeCheck_keepsOrder (s : State) (k : SetNo) : s.KeepsOrder (s.gradeCheck k).state := by
  unfold State.gradeCheck
  split
  · split
    · exact .refl s
    · exact s.endProve_keepsOrder _ _ _
  · exact .refl s

/-! ### Operations outside the Prover Unit -/

theorem State.setFlags_prover (s : State) (r : RunNo) (new : RunFlags) : (s.setFlags r new).prover = s.prover :=
  (s.setFlags_raised r new).prover

theorem State.judge_prover (s : State) : s.judge.prover = s.prover := by
  obtain ⟨d, h, -⟩ := s.judge_effect
  exact h.prover

theorem State.mapActive_prover (s : State) (f : BatchEntry → BatchEntry) : (s.mapActive f).prover = s.prover := by
  unfold State.mapActive
  split
  · rfl
  · split <;> rfl

theorem State.mapRole_prover (s : State) (role : Role) (f : LiveRecord → LiveRecord) :
    (s.mapRole role f).prover = s.prover := by
  unfold State.mapRole
  split <;> rfl

theorem State.accept_prover (s : State) (slot : Nat) (e : MapEntry) (f : Frame) (c : Acceptance) :
    (s.accept slot e f c).prover = s.prover := (s.accept_raised slot e f c).prover

theorem State.updateRecord_prover (s : State) (slot : Nat) (e : MapEntry) (new : LiveRecord) :
    (s.updateRecord slot e new).prover = s.prover := by
  have hrecord : _ = s.prover :=
    (State.followRecord_raised (s.setSlot slot (some { e with record := new })) slot e.record new).prover
  unfold State.updateRecord
  dsimp only
  split
  · exact (State.judge_prover _).trans hrecord
  · exact hrecord

theorem State.openHead_prover (s : State) : s.openHead.state.prover = s.prover := by
  cases h : s.batch.schedule with
  | nil => rw [State.openHead, h]; rfl
  | cons b rest =>
    obtain ⟨d, r, heq⟩ := State.openHead_eq h
    rw [heq]

theorem State.setSchedule_keepsOrder (s : State) (l : List BatchEntry) : s.KeepsOrder (s.setSchedule l) :=
  State.keepsOrder_of_prover rfl

theorem State.select_prover (s : State) : s.select.prover = s.prover := by rw [s.select_effect]

theorem State.arrive_prover (s : State) (f : Frame) : (s.arrive f).prover = s.prover := by
  obtain ⟨l, h⟩ := s.arrive_effect f
  exact h.prover

theorem State.unbookedFrame_prover (s : State) (r : RunNo) (d : Counts) :
    (s.unbookedFrame r d).prover = s.prover := by
  unfold State.unbookedFrame
  dsimp only
  split
  · exact State.setFlags_prover _ r _
  · rfl

theorem State.cutoffFrame_prover (s : State) (r : RunNo) (d : Counts) : (s.cutoffFrame r d).prover = s.prover :=
  State.setFlags_prover _ r _

/-! ### Closes of batches and runs (R22, R69, R88 to R93, R133, R134) -/

/-- The end of a decommission ends the ACTIVE prove (R93, R134). -/
theorem State.decommissionComplete_keepsOrder (s : State) : s.KeepsOrder s.decommissionComplete.state := by
  have hcleared : ∀ (l : List RunNo) (u : State), (u.clearFlags l).prover = u.prover := fun l => by
    induction l with
    | nil => exact fun _ => rfl
    | cons r l ih => exact fun u => (ih _).trans (u.setFlags_prover r .clear)
  have hafresh : ∀ u : State, u.detectorAfresh.prover = u.prover := fun u => by
    obtain ⟨d, h⟩ := u.detectorAfresh_eq
    rw [h]
    exact u.interfaceReturned_raised.prover
  have hbefore : (((State.clearFlags { s with mgmt := { s.mgmt with device := .uncommissioned } }
      Num4.all).detectorAfresh).triggerAll .batchChange).prover = s.prover :=
    ((State.triggerAll_triggered _ _).prover.trans (hafresh _)).trans (hcleared _ _)
  unfold State.decommissionComplete
  dsimp only [Work.andThen, Work.map, Work.note, Work.setDevice, State.work]
  split
  · exact (State.keepsOrder_of_prover hbefore).trans (State.endProve_keepsOrder _ _ _ _)
  · exact State.keepsOrder_of_prover hbefore

/-- A completion may end the ACTIVE prove (R92, R93). -/
theorem State.completeClose_keepsOrder (s : State) (cause : CloseCause) (mark : Bool) :
    s.KeepsOrder (s.completeClose cause mark).state := by
  have succeeds : ∀ (v : State) (k : SetNo), v.KeepsOrder (v.openHead.state.gradeCheck k).state := fun v k =>
    (State.keepsOrder_of_prover v.openHead_prover).trans (State.gradeCheck_keepsOrder _ k)
  unfold State.completeClose
  split
  · exact .refl s
  · next a rest _ =>
    have hreturned : s.KeepsOrder ((({ s with tickets := s.tickets ++ [s.makeTicket a cause] }.setSchedule
        rest).returnCond .overTarget 1).returnCond .ticketStoreFull 1) := State.keepsOrder_of_prover rfl
    dsimp only [Work.andThen, Work.map, Work.note, State.work]
    split
    · exact hreturned.trans (State.decommissionComplete_keepsOrder _)
    · split
      · exact (hreturned.trans (State.setSchedule_keepsOrder _ _)).trans (succeeds _ _)
      · exact hreturned.trans (succeeds _ _)

theorem State.beginClose_keepsOrder (s : State) (cause : CloseCause) :
    s.KeepsOrder (s.beginClose cause).work.state := by
  unfold State.beginClose
  split
  · exact .refl s
  · dsimp only
    split
    · exact .refl s
    · split
      · exact s.completeClose_keepsOrder _ _
      · exact (State.keepsOrder_of_prover (s.mapActive_prover _)).trans
          (State.followObstacles_raised ..).keepsOrder

theorem State.retestClose_keepsOrder (s : State) (before : Obstacles) :
    s.KeepsOrder (s.retestClose before).work.state := by
  unfold State.retestClose
  split
  · exact .refl s
  · split
    · exact .refl s
    · split
      · exact s.completeClose_keepsOrder _ _
      · exact (State.followObstacles_raised ..).keepsOrder

theorem State.targetCheck_keepsOrder (s : State) : s.KeepsOrder s.targetCheck.state := by
  unfold State.targetCheck
  split
  · exact .refl s
  · split
    · exact .refl s
    · split
      · exact s.beginClose_keepsOrder _
      · exact .refl s

theorem State.decommissionClose_keepsOrder (s : State) : s.KeepsOrder s.decommissionClose.work.state := by
  unfold State.decommissionClose
  split
  · exact s.beginClose_keepsOrder _
  · exact (State.keepsOrder_of_prover (s.mapActive_prover _)).trans (State.retestClose_keepsOrder _ _)

theorem State.closeRun_keepsOrder (s : State) (r : RunNo) : s.KeepsOrder (s.closeRun r).state := by
  have hclosed : ∀ x : RunUnit, s.KeepsOrder ((s.setRun r x).clearMeteringFlags r) := fun x =>
    State.keepsOrder_of_prover (State.setFlags_prover _ r _)
  unfold State.closeRun
  dsimp only
  split
  · exact (hclosed _).trans (State.endProve_keepsOrder _ _ _ _)
  · exact hclosed _

theorem State.endOfFrame_keepsOrder (s : State) (r : RunNo) : s.KeepsOrder (s.endOfFrame r).state := by
  unfold State.endOfFrame
  split
  · exact s.closeRun_keepsOrder r
  · exact .refl s

/-! ### PULSE_FRAME (R49 to R69) -/

theorem State.bookFrame_keepsOrder (s : State) (r : RunNo) (b : BatchEntry) (k : Nat) (rate : Rate) (d : Counts) :
    s.KeepsOrder (s.bookFrame r b k rate d).state := by
  unfold State.bookFrame
  extract_lets old s1 unit inp x s2 c water i deg s3 s4 carried s5
  have h2 : s2.prover = s.prover := s1.setFlags_prover r _
  have h5 : s5.prover = s.prover := (s3.mapActive_prover _).trans h2
  exact (State.keepsOrder_of_prover h5).trans s5.targetCheck_keepsOrder

theorem State.decideFrame_keepsOrder (s : State) (r : RunNo) (d : Counts) (k : Nat) (rate : Rate) :
    s.KeepsOrder (s.decideFrame r d k rate).state := by
  have hunbooked := State.keepsOrder_of_prover (s.unbookedFrame_prover r d)
  unfold State.decideFrame
  dsimp only
  split
  · exact hunbooked
  · split
    · exact hunbooked
    · split
      · exact State.keepsOrder_of_prover (s.cutoffFrame_prover r d)
      · exact s.bookFrame_keepsOrder r _ k rate d

theorem State.plausibleFrame_keepsOrder (s : State) (r : RunNo) (d : Counts) :
    s.KeepsOrder (s.plausibleFrame r d).state := by
  unfold State.plausibleFrame
  split
  · exact (State.keepsOrder_of_prover (s.unbookedFrame_prover r d)).trans (State.endOfFrame_keepsOrder _ r)
  · have hrate : ∀ x : ChainRecord, s.KeepsOrder (s.setChain r x) := fun _ => State.keepsOrder_of_prover rfl
    exact (((hrate _).trans (State.decideFrame_keepsOrder _ r d _ _)).trans
      (State.reportHandOff_triggered _ r).keepsOrder).trans (State.endOfFrame_keepsOrder _ r)

theorem usePulse_keepsOrder (f : Frame) (slot : Nat) (e : MapEntry) (c : Acceptance) (s : State) :
    s.KeepsOrder (usePulse f slot e c s).state := by
  have hbaselines : ∀ x : Counts, s.KeepsOrder (s.takeBaselines slot e x) := fun _ => State.keepsOrder_of_prover rfl
  unfold usePulse
  split
  · next r _ =>
    dsimp only
    split
    · exact (hbaselines _).trans (State.endOfFrame_keepsOrder _ r)
    · split
      · exact (s.occur_raised ..).keepsOrder.trans (State.endOfFrame_keepsOrder _ r)
      · exact (hbaselines _).trans (State.plausibleFrame_keepsOrder _ r _)
  all_goals exact .refl s

/-! ### VALUE_FRAME and PASS_FRAME -/

theorem useValue_keepsOrder (f : Frame) (slot : Nat) (e : MapEntry) (c : Acceptance) (s : State) :
    s.KeepsOrder (useValue f slot e c s).state := by
  have hrecord : ∀ x : LiveRecord, s.KeepsOrder (s.updateRecord slot e x) := fun x =>
    State.keepsOrder_of_prover (s.updateRecord_prover slot e x)
  unfold useValue
  split
  · exact .refl s
  · split
    · dsimp only [State.work]
      split
      · exact (hrecord _).trans (State.densityHandOff_triggered _ _).keepsOrder
      · exact hrecord _
    · exact hrecord _

theorem State.applyShift_prover (s : State) (r : RunNo) (k : SetNo) (x : Nat) :
    (s.applyShift r k x).prover = s.prover := State.mapActive_prover (s.setShift r k x) _

/-- A complete window ends the ACTIVE prove, or frees the prover for the next one (R128 to R130). -/
theorem State.completeProve_keepsOrder (s : State) {r : RunNo} (hactive : (s.prove r).state.isActive = true)
    (k : SetNo) (rho count : Nat) (c : ProverConfig) (w : List PassRecord) :
    s.KeepsOrder (s.completeProve r k rho count c w).state := by
  have hwaits : ∀ x timer, s.KeepsOrder (s.setProve r
      { s.prove r with state := .pendingAccept k rho count x timer }).tryHead.state := fun x timer h => by
    refine (h.toQueued.setProve (fun hq => ?_) (by simp) (by simp [ProveState.isActive])).tryHead
    rw [hq] at hactive
    cases hactive
  unfold State.completeProve
  extract_lets x deviation x' p waiting s'
  split
  · exact s.endProve_keepsOrder _ _ _
  · split
    · exact (State.keepsOrder_of_prover (s.applyShift_prover r k _)).trans (State.endProve_keepsOrder _ _ _ _)
    · exact hwaits _ _

theorem State.takePass_keepsOrder (s : State) (r : RunNo) (c : ProverConfig) (previous : Option Nat) (p : Pass) :
    s.KeepsOrder (s.takePass r c previous p).state := by
  unfold State.takePass
  split
  · next k rho before window timer hact =>
    have hstays : ∀ count w timer, s.KeepsOrder (s.setProve r
        { s.prove r with state := .active k rho count w timer }) := fun count w timer h => by
      refine (h.toQueued.setProve (by simp [hact]) (by simp) fun _ => by
        rw [hact]; rfl).ordered fun _ => ⟨r, ?_⟩
      rw [State.prove_setProve_self]
      rfl
    dsimp only
    split
    · refine (hstays _ _ _).trans (State.completeProve_keepsOrder _ ?_ _ _ _ _ _)
      rw [State.prove_setProve_self]
      rfl
    · split
      · exact (hstays _ _ _).trans (State.endProve_keepsOrder _ _ _ _)
      · exact hstays _ _ _
  all_goals exact .refl s

theorem usePass_keepsOrder (f : Frame) (slot : Nat) (e : MapEntry) (c : Acceptance) (s : State) :
    s.KeepsOrder (usePass f slot e c s).state := by
  have hrecorded : ∀ x, s.KeepsOrder (s.setSlot slot x) := fun _ => State.keepsOrder_of_prover rfl
  unfold usePass State.handPass
  dsimp only
  split
  · exact (hrecorded _).trans (State.takePass_keepsOrder _ _ _ _ _)
  · exact (hrecorded _).trans (State.occur_raised ..).keepsOrder

end Sys2Proof.Machine
end

section
/-!
The order of the prover at the requests and at every command, and the invariant of every step (R114 to R119, R131,
R134, R135, R180).
-/

namespace Sys2Proof.Machine

variable {s t : State}

/-! ### Dispatches -/

theorem State.whenRunning_keepsOrder {event : State → State} (h : s.KeepsOrder (event s)) :
    s.KeepsOrder (s.whenRunning event) := by
  unfold State.whenRunning
  split
  · exact .refl s
  · exact h

theorem State.dispatchHead_keepsOrder {use : Frame → State → State} (h : ∀ f, s.KeepsOrder (use f s)) :
    s.KeepsOrder (s.dispatchHead use) := by
  refine State.whenRunning_keepsOrder ?_
  split
  · exact .refl s
  · exact h _

/-- A sample frame, own-node or broadcast, keeps the order where its use does. -/
theorem dispatchSample_keepsOrder (kind : Byte) {use : Frame → Nat → MapEntry → Acceptance → State → Work}
    (huse : ∀ f slot e c (s : State), s.KeepsOrder (use f slot e c s).state) (s : State) :
    s.KeepsOrder (s.dispatchSample kind use) := by
  have accepts : ∀ slot e f c, s.KeepsOrder (s.popHead.accept slot e f c) := fun slot e f c =>
    State.keepsOrder_of_prover (s.popHead.accept_prover slot e f c)
  have point : ∀ (f : Frame) (slot : Nat) (e e' : MapEntry) (c : Acceptance),
      s.KeepsOrder (use f slot e' c (s.popHead.accept slot e f c)).finish := fun f slot e e' c =>
    ((accepts slot e f c).trans (huse f slot e' c _)).finish
  have forwards : ∀ (u : State) (f : Frame), u.KeepsOrder (u.appendForward f) := fun _ _ =>
    State.keepsOrder_of_prover rfl
  unfold State.dispatchSample
  refine State.whenRunning_keepsOrder ?_
  dsimp only
  split
  · exact .refl s
  · next f rest _ =>
    split
    · split
      · split
        · split
          · exact State.keepsOrder_of_prover rfl
          · exact point _ _ _ _ _
        · exact State.keepsOrder_of_prover (State.occur_raised s.popHead ..).prover
      · split
        · split
          · split
            · exact State.keepsOrder_of_prover rfl
            · exact (point _ _ _ _ _).trans (forwards _ f)
          · exact State.keepsOrder_of_prover rfl
        · exact .refl s
    · exact .refl s

/-- A request keeps the order where its owner does. -/
theorem dispatchRequest_keepsOrder {takes : Frame → Bool} {owner : Frame → State → Answer}
    (ho : ∀ f (s : State), s.KeepsOrder (owner f s).work.state) (s : State) :
    s.KeepsOrder (s.dispatchRequest takes owner) := by
  refine State.whenRunning_keepsOrder ?_
  split
  · next f _ =>
    split
    · have hpopped : s.KeepsOrder s.popHead := State.keepsOrder_of_prover rfl
      exact (hpopped.trans (ho f _)).finish.trans (State.keepsOrder_of_prover rfl)
    · exact .refl s
  · exact .refl s

theorem request_keepsOrder (k : Nat) {owner : List Byte → State → Answer}
    (ho : ∀ p (s : State), s.KeepsOrder (owner p s).work.state) (s : State) : s.KeepsOrder (s.request k owner) :=
  dispatchRequest_keepsOrder (fun f s => by
    split
    · exact ho f.params s
    · exact .refl s) s

theorem setRunService_keepsOrder (d o : Nat) {owner : RunNo → State → Answer}
    (ho : ∀ r (s : State), s.KeepsOrder (owner r s).work.state) (s : State) :
    s.KeepsOrder (s.setRunService d o owner) :=
  dispatchRequest_keepsOrder (fun f s => by
    split
    · exact .refl s
    · split
      · exact .refl s
      · split
        · exact ho _ s
        · exact .refl s) s

/-! ### Requests that leave the Prover Unit

Each refuses or reports, which keeps the state, or makes one change of other blocks. -/

theorem mapPointRequest_prover (p : List Byte) (s : State) : (mapPointRequest p s).work.state.prover = s.prover := by
  have maps : ∀ slot id role, (s.mapSlot slot id role).prover = s.prover := fun slot _ _ =>
    (State.judge_prover _).trans (State.returnLatched_raised _ slot).prover
  unfold mapPointRequest
  dsimp only
  split
  · rfl
  · split
    · rfl
    · split
      · split
        · rfl
        · split
          · rfl
          · split
            · rfl
            · exact maps ..
      · split
        · rfl
        · split
          · rfl
          · split
            · exact maps ..
            · rfl

theorem unmapPointRequest_prover (p : List Byte) (s : State) :
    (unmapPointRequest p s).work.state.prover = s.prover := by
  unfold unmapPointRequest
  split
  · rfl
  · next slot _ _ =>
    split
    · rfl
    · exact (State.judge_prover _).trans (State.returnLatched_raised _ slot).prover

theorem configureRunRequest_prover (p : List Byte) (s : State) :
    (configureRunRequest p s).work.state.prover = s.prover := by
  unfold configureRunRequest
  split
  · rfl
  · dsimp only
    split
    · rfl
    · split
      · rfl
      · refine (State.mapRole_prover _ _ _).trans ((State.mapRole_prover _ _ _).trans ?_)
        split <;> rfl

theorem configureHeaderRequest_prover (p : List Byte) (s : State) :
    (configureHeaderRequest p s).work.state.prover = s.prover := by
  unfold configureHeaderRequest
  dsimp only
  split
  · rfl
  · split
    · rfl
    · exact State.mapRole_prover _ _ _

theorem openRun_prover (r : RunNo) (s : State) : (openRun r s).work.state.prover = s.prover := by
  unfold openRun
  dsimp only
  split
  · split
    · exact State.setFlags_prover _ r _
    · rfl
  all_goals rfl

theorem beginLoadRequest_prover (p : List Byte) (s : State) :
    (beginLoadRequest p s).work.state.prover = s.prover := by
  unfold beginLoadRequest
  dsimp only
  split
  · rfl
  · split
    · rfl
    · split <;> rfl

theorem loadSegmentRequest_prover (p : List Byte) (s : State) :
    (loadSegmentRequest p s).work.state.prover = s.prover := by
  unfold loadSegmentRequest
  split
  · rfl
  · split
    · split <;> rfl
    · rfl

theorem commitSetRequest_prover (p : List Byte) (s : State) :
    (commitSetRequest p s).work.state.prover = s.prover := by
  unfold commitSetRequest
  dsimp only
  split
  · rfl
  · split
    · rfl
    · split
      · rfl
      · split
        · rfl
        · split <;> rfl

theorem discardSetRequest_prover (p : List Byte) (s : State) :
    (discardSetRequest p s).work.state.prover = s.prover := by
  unfold discardSetRequest
  split
  · rfl
  · split <;> rfl

theorem clearShiftRequest_prover (p : List Byte) (s : State) :
    (clearShiftRequest p s).work.state.prover = s.prover := by
  unfold clearShiftRequest
  split
  · split <;> rfl
  · rfl

theorem seedTotalsRequest_prover (p : List Byte) (s : State) :
    (seedTotalsRequest p s).work.state.prover = s.prover := by
  unfold seedTotalsRequest
  dsimp only
  split
  · rfl
  · split
    · rfl
    · split <;> rfl

theorem cancelBatchRequest_prover (p : List Byte) (s : State) :
    (cancelBatchRequest p s).work.state.prover = s.prover := by
  unfold cancelBatchRequest
  split
  · rfl
  · split
    · rfl
    · exact (State.followObstacles_raised _ _).prover

theorem acknowledgeAll_prover (l : List Nat) (s : State) : (acknowledgeAll l s).1.prover = s.prover := by
  induction l generalizing s with
  | nil => rfl
  | cons n l ih => exact (ih _).trans (s.acknowledge_raised n).prover

theorem ackConditionsRequest_prover (p : List Byte) (s : State) :
    (ackConditionsRequest p s).work.state.prover = s.prover := by
  unfold ackConditionsRequest
  split
  · exact acknowledgeAll_prover _ s
  · dsimp only
    split
    · exact acknowledgeAll_prover _ s
    · rfl
  · rfl

theorem setLevelsRequest_prover (p : List Byte) (s : State) :
    (setLevelsRequest p s).work.state.prover = s.prover := by
  unfold setLevelsRequest
  dsimp only
  split <;> rfl

theorem setInboundPolicyRequest_prover (p : List Byte) (s : State) :
    (setInboundPolicyRequest p s).work.state.prover = s.prover := by
  unfold setInboundPolicyRequest
  split <;> rfl

theorem setReportingRequest_prover (p : List Byte) (s : State) :
    (setReportingRequest p s).work.state.prover = s.prover := by
  unfold setReportingRequest
  dsimp only
  split <;> rfl

theorem setSlotPlanRequest_prover (p : List Byte) (s : State) :
    (setSlotPlanRequest p s).work.state.prover = s.prover := by
  unfold setSlotPlanRequest
  dsimp only
  split
  · rfl
  · split <;> rfl

theorem commissionRequest_prover (p : List Byte) (s : State) :
    (commissionRequest p s).work.state.prover = s.prover := by
  unfold commissionRequest
  split
  · rfl
  · exact State.openHead_prover { s with mgmt := { s.mgmt with device := .measuring } }

/-! ### Requests whose close may end a prove (R23, R82, R84, R86, R112, R179) -/

theorem closeRunRequest_keepsOrder (r : RunNo) (s : State) :
    s.KeepsOrder (closeRunRequest r s).work.state := by
  unfold closeRunRequest
  dsimp only
  split
  · exact .refl s
  · exact .refl s
  · exact .refl s
  · exact s.closeRun_keepsOrder r
  · exact State.keepsOrder_of_prover rfl

theorem queueBatchRequest_keepsOrder (p : List Byte) (s : State) :
    s.KeepsOrder (queueBatchRequest p s).work.state := by
  unfold queueBatchRequest
  dsimp only
  split
  · split
    · exact .refl s
    · split
      · exact .refl s
      · split
        · exact .refl s
        · exact (s.setSchedule_keepsOrder _).trans (State.retestClose_keepsOrder _ _)
  · exact .refl s

theorem amendTargetRequest_keepsOrder (p : List Byte) (s : State) :
    s.KeepsOrder (amendTargetRequest p s).work.state := by
  have amends : ∀ l : List BatchEntry, s.KeepsOrder ((s.setSchedule l).beginClose .target).work.state :=
    fun l => (s.setSchedule_keepsOrder l).trans (State.beginClose_keepsOrder _ _)
  unfold amendTargetRequest
  dsimp only
  split
  · exact .refl s
  · split
    · exact .refl s
    · split
      · exact s.setSchedule_keepsOrder _
      · split
        · exact .refl s
        · split
          · split
            · split
              · exact amends _
              · exact amends _
            · exact s.setSchedule_keepsOrder _
          · exact s.setSchedule_keepsOrder _

theorem closeBatchRequest_keepsOrder (p : List Byte) (s : State) :
    s.KeepsOrder (closeBatchRequest p s).work.state := by
  unfold closeBatchRequest
  split
  · exact .refl s
  · split
    · rw [CloseStep.answer_state]
      exact s.beginClose_keepsOrder _
    · split
      · rw [CloseStep.answer_state]
        exact (State.keepsOrder_of_prover (s.mapActive_prover _)).trans (State.retestClose_keepsOrder _ _)
      · exact .refl s

theorem releaseTicketRequest_keepsOrder (p : List Byte) (s : State) :
    s.KeepsOrder (releaseTicketRequest p s).work.state := by
  unfold releaseTicketRequest
  dsimp only
  split
  · exact .refl s
  · next x rest _ =>
    have hreleased : s.KeepsOrder { s with tickets := rest } := State.keepsOrder_of_prover rfl
    split
    · exact hreleased.trans (State.retestClose_keepsOrder _ _)
    · split <;> exact .refl s

theorem decommissionRequest_keepsOrder (p : List Byte) (s : State) :
    s.KeepsOrder (decommissionRequest p s).work.state := by
  have hended : s.KeepsOrder s.endAllProves.state := fun h => h.toQueued.endAllProves
  have hclose := hended.trans s.endAllProves.state.decommissionClose_keepsOrder
  unfold decommissionRequest
  split
  · exact .refl s
  · dsimp only
    split
    · exact hclose
    · exact hclose.trans (State.keepsOrder_of_prover rfl)

/-! ### Requests to the Prover Unit (R114, R117, R131, R135, R180) -/

/-- The configuration stands outside the order. -/
theorem State.configured_keepsOrder (s : State) (c : ProverConfig) :
    s.KeepsOrder { s with prover := { s.prover with config := some c } } :=
  fun h => ⟨h.once, h.queued, h.single, h.behind⟩

theorem configureProverRequest_keepsOrder (p : List Byte) (s : State) :
    s.KeepsOrder (configureProverRequest p s).work.state := by
  unfold configureProverRequest
  dsimp only
  split
  · exact .refl s
  · split
    · exact .refl s
    · exact s.configured_keepsOrder _

/-- A run without a prove joins the tail of the queue. -/
theorem State.ProverQueued.enqueue (h : s.ProverQueued) {r : RunNo} (hnone : (s.prove r).state = .none)
    (o : Option LastOutcome) : (s.reproved r ⟨.queued, o⟩ (s.prover.queue ++ [r])).ProverQueued := by
  have hr : r ∉ s.prover.queue := fun hmem => by
    rw [(h.queued r).1 hmem] at hnone
    cases hnone
  refine h.reproved ?_ (fun q hq => by simp [hq]) (by simp) (by simp [ProveState.isActive])
  exact List.Nodup.append h.once (List.nodup_singleton r) (by simpa using hr)

theorem requestProveRequest_keepsOrder (p : List Byte) (s : State) :
    s.KeepsOrder (requestProveRequest p s).work.state := by
  unfold requestProveRequest
  split
  · exact .refl s
  · next r _ =>
    split
    · exact .refl s
    · split
      · exact .refl s
      · next hnone => exact fun h => (h.toQueued.enqueue (by simpa using hnone) _).tryHead

theorem cancelProveRequest_keepsOrder (p : List Byte) (s : State) :
    s.KeepsOrder (cancelProveRequest p s).work.state := by
  unfold cancelProveRequest
  split
  · exact .refl s
  · split
    · exact .refl s
    · exact .refl s
    · exact s.endProve_keepsOrder _ _ _
    · exact s.endProve_keepsOrder _ _ _

theorem State.onPending_keepsOrder (p : List Byte) {owner : RunNo → SetNo → ProveResult → Answer}
    (ho : ∀ r k x, s.KeepsOrder (owner r k x).work.state) : s.KeepsOrder (s.onPending p owner).work.state := by
  unfold State.onPending
  split
  · exact .refl s
  · split
    · exact ho _ _ _
    all_goals exact .refl s

theorem acceptProveRequest_keepsOrder (p : List Byte) (s : State) :
    s.KeepsOrder (acceptProveRequest p s).work.state :=
  State.onPending_keepsOrder p fun r k x => (State.keepsOrder_of_prover (s.applyShift_prover r k x.shift)).trans
    (State.endProve_keepsOrder _ r .accepted none)

theorem rejectProveRequest_keepsOrder (p : List Byte) (s : State) :
    s.KeepsOrder (rejectProveRequest p s).work.state :=
  State.onPending_keepsOrder p fun r _ _ => s.endProve_keepsOrder r .rejected none

/-- Without a prove in any record, and with nobody waiting, the prover is in order. -/
theorem State.ProverOrdered.of_blank (hqueue : s.prover.queue = []) (hnone : ∀ r, (s.prove r).state = .none) :
    s.ProverOrdered :=
  ⟨by rw [hqueue]; exact .nil, fun r => by simp [hqueue, hnone],
    fun r _ hr => absurd hr (by rw [hnone]; decide), fun hne => absurd hqueue hne⟩

theorem restartRequest_keepsOrder (p : List Byte) (s : State) :
    s.KeepsOrder (restartRequest p s).work.state := by
  unfold restartRequest
  split
  · exact .refl s
  · exact fun _ => .of_blank rfl fun r => congrArg ProveRecord.state (Four.get_const _ r)

/-! ### The other commands -/

theorem dispatchSlotPlan_keepsOrder (s : State) : s.KeepsOrder s.dispatchSlotPlan := by
  refine State.whenRunning_keepsOrder ?_
  split
  · exact .refl s
  · next f _ =>
    split
    · have hanswer : s.KeepsOrder (if lengthFits 32 f.params then setSlotPlanRequest f.params s.popHead
          else s.popHead.refuse .badLength).work.state := by
        split
        · exact State.keepsOrder_of_prover (setSlotPlanRequest_prover f.params s.popHead)
        · exact State.keepsOrder_of_prover rfl
      generalize (if lengthFits 32 f.params then setSlotPlanRequest f.params s.popHead
          else s.popHead.refuse .badLength) = a at hanswer ⊢
      have hconclude : s.KeepsOrder (a.conclude f) := hanswer.finish.trans (State.keepsOrder_of_prover rfl)
      dsimp only
      split
      · exact hconclude.trans (State.keepsOrder_of_prover (State.select_prover _))
      · exact hconclude
    · exact .refl s

theorem execFrameEnd_keepsOrder (bytes : List Byte) (h : execFrameEnd bytes s = .next t) : s.KeepsOrder t := by
  cases h
  refine State.whenRunning_keepsOrder ?_
  split
  · exact .refl s
  · dsimp only
    split
    · exact State.keepsOrder_of_prover (State.arrive_prover (s.setReception .none) _)
    · exact State.keepsOrder_of_prover (State.occur_raised (s.setReception .none) ..).prover

theorem execTriggerFrame_keepsOrder (h : execTriggerFrame s = .next t) : s.KeepsOrder t := by
  cases h
  refine State.dispatchHead_keepsOrder fun f => ?_
  have htriggered : (s.popHead.triggerAll .external).prover = s.prover := (State.triggerAll_triggered _ _).prover
  split
  · split
    · exact State.keepsOrder_of_prover htriggered
    · split
      · exact State.keepsOrder_of_prover htriggered
      · exact .refl s
  · exact .refl s

theorem execStaleTimerExpiry_keepsOrder (slot : Nat) (h : execStaleTimerExpiry slot s = .next t) :
    s.KeepsOrder t := by
  cases h
  refine State.whenRunning_keepsOrder ?_
  split
  · exact .refl s
  · split
    · exact State.keepsOrder_of_prover (State.updateRecord_prover (s.passTo _) slot _ _)
    · exact .refl s

theorem execHoldTimerExpiry_keepsOrder (slot : Nat) (h : execHoldTimerExpiry slot s = .next t) :
    s.KeepsOrder t := by
  cases h
  refine State.whenRunning_keepsOrder ?_
  split
  · exact .refl s
  · split
    · exact State.keepsOrder_of_prover (State.updateRecord_prover (s.passTo _) slot _ _)
    · exact .refl s

theorem State.passTo_keepsOrder (s : State) (count : Nat) : s.KeepsOrder (s.passTo count) :=
  State.keepsOrder_of_prover rfl

theorem execCloseTimerExpiry_keepsOrder (r : RunNo) (h : execCloseTimerExpiry r s = .next t) :
    s.KeepsOrder t := by
  cases h
  refine State.whenRunning_keepsOrder ?_
  split
  · exact ((s.passTo_keepsOrder _).trans (State.closeRun_keepsOrder _ r)).finish
  · exact .refl s

theorem execInterfaceTimerExpiry_keepsOrder (h : execInterfaceTimerExpiry s = .next t) : s.KeepsOrder t := by
  cases h
  refine State.whenRunning_keepsOrder ?_
  split
  · next e _ =>
    have hraised : s.KeepsOrder (((s.passTo e).setDetector .interface).raiseEntry .interface 1) :=
      State.keepsOrder_of_prover (State.raiseEntry_raised ((s.passTo e).setDetector .interface) ..).prover
    refine State.KeepsOrder.finish (State.KeepsOrder.trans ?_ (State.countLevel3_raised _ .interface).keepsOrder)
    split_ifs
    · exact hraised.trans (State.beginClose_keepsOrder _ _)
    · exact hraised
  · exact .refl s
  · exact .refl s

theorem execPassTimerExpiry_keepsOrder (h : execPassTimerExpiry s = .next t) : s.KeepsOrder t := by
  cases h
  refine State.whenRunning_keepsOrder ?_
  split
  · exact .refl s
  · split
    · exact ((s.passTo_keepsOrder _).trans (State.endProve_keepsOrder _ _ _ _)).finish
    all_goals exact .refl s

theorem execAcceptTimerExpiry_keepsOrder (r : RunNo) (h : execAcceptTimerExpiry r s = .next t) :
    s.KeepsOrder t := by
  cases h
  refine State.whenRunning_keepsOrder ?_
  split
  · exact ((s.passTo_keepsOrder _).trans (State.endProve_keepsOrder _ _ _ _)).finish
  all_goals exact .refl s

theorem execReportPeriodExpiry_keepsOrder (h : execReportPeriodExpiry s = .next t) : s.KeepsOrder t := by
  cases h
  refine State.whenRunning_keepsOrder ?_
  split
  · next e _ => exact State.keepsOrder_of_prover (State.triggerAll_triggered (s.passTo e) .periodic).prover
  · exact .refl s

theorem execDownstreamReadyChange_keepsOrder (level : Bool) (h : execDownstreamReadyChange level s = .next t) :
    s.KeepsOrder t := by
  cases h
  have hline : s.KeepsOrder { s with outbound := { s.outbound with downstreamReady := level } } :=
    State.keepsOrder_of_prover rfl
  split
  · exact hline.trans (State.whenRunning_keepsOrder (State.keepsOrder_of_prover (State.select_prover _)))
  · exact hline

/-! ### Every command and every step -/

/-- Every command keeps the prover in order. -/
theorem exec_keepsOrder (c : Instr) (h : exec c s = .next t) : s.KeepsOrder t := by
  have reads : ∀ (k : Nat) {owner : List Byte → State → Answer},
      (∀ p s, (owner p s).work.state = s) → s.KeepsOrder (s.request k owner) := fun k _ ho =>
    request_keepsOrder k (fun p s => State.keepsOrder_of_prover (by rw [ho])) s
  have others : ∀ (k : Nat) {owner : List Byte → State → Answer},
      (∀ p s, (owner p s).work.state.prover = s.prover) → s.KeepsOrder (s.request k owner) := fun k _ ho =>
    request_keepsOrder k (fun p s => State.keepsOrder_of_prover (ho p s)) s
  cases c
  case powerOnReset =>
    cases h
    exact fun _ => .of_blank rfl fun r => congrArg ProveRecord.state (Four.get_const _ r)
  case resetEnd =>
    cases h
    split <;> exact State.keepsOrder_of_prover rfl
  case receptionStart =>
    cases h
    refine State.whenRunning_keepsOrder ?_
    split <;> exact State.keepsOrder_of_prover rfl
  case frameEnd bytes => exact execFrameEnd_keepsOrder bytes h
  case forwardDispatch =>
    cases h
    refine State.dispatchHead_keepsOrder fun f => ?_
    split <;> exact State.keepsOrder_of_prover rfl
  case pulseFrame => cases h; exact dispatchSample_keepsOrder _ usePulse_keepsOrder s
  case valueFrame => cases h; exact dispatchSample_keepsOrder _ useValue_keepsOrder s
  case passFrame => cases h; exact dispatchSample_keepsOrder _ usePass_keepsOrder s
  case triggerFrame => exact execTriggerFrame_keepsOrder h
  case invalidOwnFrame =>
    cases h
    refine State.dispatchHead_keepsOrder fun f => ?_
    split
    · exact State.keepsOrder_of_prover (State.occur_raised s.popHead ..).prover
    · exact .refl s
  case staleTimerExpiry slot => exact execStaleTimerExpiry_keepsOrder slot h
  case holdTimerExpiry slot => exact execHoldTimerExpiry_keepsOrder slot h
  case closeTimerExpiry r => exact execCloseTimerExpiry_keepsOrder r h
  case interfaceTimerExpiry => exact execInterfaceTimerExpiry_keepsOrder h
  case passTimerExpiry => exact execPassTimerExpiry_keepsOrder h
  case acceptTimerExpiry r => exact execAcceptTimerExpiry_keepsOrder r h
  case reportPeriodExpiry => exact execReportPeriodExpiry_keepsOrder h
  case idleIntervalReached =>
    cases h
    refine State.whenRunning_keepsOrder ?_
    split
    · exact State.keepsOrder_of_prover (State.select_prover (s.passTo _))
    · exact .refl s
  case stationTimeAdvance => cases h; exact State.whenRunning_keepsOrder (State.keepsOrder_of_prover rfl)
  case downstreamReadyChange level => exact execDownstreamReadyChange_keepsOrder level h
  case transmissionStart =>
    cases h
    refine State.whenRunning_keepsOrder ?_
    split
    · exact State.keepsOrder_of_prover s.select_prover
    · exact .refl s
  case transmissionComplete =>
    cases h
    refine State.whenRunning_keepsOrder ?_
    split
    · exact State.keepsOrder_of_prover (State.select_prover _)
    · exact .refl s
  case unknownRequest => cases h; exact dispatchRequest_keepsOrder (fun _ s => .refl s) s
  case mapPoint => cases h; exact others 1 mapPointRequest_prover
  case unmapPoint => cases h; exact others 2 unmapPointRequest_prover
  case configureRun => cases h; exact others 3 configureRunRequest_prover
  case configureHeader => cases h; exact others 4 configureHeaderRequest_prover
  case setRunServiceOpen =>
    cases h
    exact setRunService_keepsOrder 0 1 (fun r s => State.keepsOrder_of_prover (openRun_prover r s)) s
  case setRunServiceClose => cases h; exact setRunService_keepsOrder 1 0 closeRunRequest_keepsOrder s
  case readLive => cases h; exact reads 6 readLiveRequest_state
  case beginLoad => cases h; exact others 7 beginLoadRequest_prover
  case loadSegment => cases h; exact others 8 loadSegmentRequest_prover
  case commitSet => cases h; exact others 9 commitSetRequest_prover
  case discardSet => cases h; exact others 10 discardSetRequest_prover
  case readSetInfo => cases h; exact reads 11 readSetInfoRequest_state
  case queueBatch => cases h; exact request_keepsOrder 12 queueBatchRequest_keepsOrder s
  case cancelBatch => cases h; exact others 13 cancelBatchRequest_prover
  case closeBatch => cases h; exact request_keepsOrder 14 closeBatchRequest_keepsOrder s
  case amendTarget => cases h; exact request_keepsOrder 15 amendTargetRequest_keepsOrder s
  case readSchedule => cases h; exact reads 16 readScheduleRequest_state
  case readTicket => cases h; exact reads 17 readTicketRequest_state
  case releaseTicket => cases h; exact request_keepsOrder 18 releaseTicketRequest_keepsOrder s
  case readTotals => cases h; exact reads 19 readTotalsRequest_state
  case seedTotals => cases h; exact others 20 seedTotalsRequest_prover
  case configureProver => cases h; exact request_keepsOrder 21 configureProverRequest_keepsOrder s
  case requestProve => cases h; exact request_keepsOrder 22 requestProveRequest_keepsOrder s
  case cancelProve => cases h; exact request_keepsOrder 23 cancelProveRequest_keepsOrder s
  case acceptProve => cases h; exact request_keepsOrder 24 acceptProveRequest_keepsOrder s
  case rejectProve => cases h; exact request_keepsOrder 25 rejectProveRequest_keepsOrder s
  case readProve => cases h; exact reads 26 readProveRequest_state
  case clearShift => cases h; exact others 27 clearShiftRequest_prover
  case ackConditions => cases h; exact others 28 ackConditionsRequest_prover
  case setLevels => cases h; exact others 29 setLevelsRequest_prover
  case readConditions => cases h; exact reads 30 readConditionsRequest_state
  case setInboundPolicy => cases h; exact others 31 setInboundPolicyRequest_prover
  case setSlotPlan => cases h; exact dispatchSlotPlan_keepsOrder s
  case setReporting => cases h; exact others 33 setReportingRequest_prover
  case commission => cases h; exact others 34 commissionRequest_prover
  case decommission => cases h; exact request_keepsOrder 35 decommissionRequest_keepsOrder s
  case restart => cases h; exact request_keepsOrder 36 restartRequest_keepsOrder s
  case setTime => cases h; exact others 37 fun _ _ => rfl
  case readStatus => cases h; exact reads 38 readStatusRequest_state

theorem step_keepsOrder (h : step s = .next t) : s.KeepsOrder t := by
  unfold step at h
  split at h
  · cases h
    unfold State.tick
    split <;> exact State.keepsOrder_of_prover rfl
  · next c rest _ =>
    have hqueue : s.KeepsOrder (s.withPending rest) := State.keepsOrder_of_prover rfl
    exact hqueue.trans (exec_keepsOrder c h)

/-- Settles O8: an ACTIVE prove that ends frees the prover for the try of the queue, and no other prove's end takes
the ACTIVE one away from ahead of it. -/
theorem proverStaysOrdered : Obligations.ProverStaysOrdered := fun _ _ hs h => step_keepsOrder h hs

end Sys2Proof.Machine
end

section
/-!
The requests of the Prover Unit and the ends of proves: CONFIGURE_PROVER, CLEAR_SHIFT, REQUEST_PROVE, ACCEPT_PROVE,
REJECT_PROVE, CANCEL_PROVE and the two timers (R114 to R119, R127, R130 to R132, R135, R137).
-/

namespace Sys2Proof.Machine

variable {s t : State} {f : Frame} {a : Byte} {r : RunNo} {k : SetNo} {rho count timer : Nat}

theorem runAt_zero_cons (a : Byte) (p : List Byte) : runAt 0 (a :: p) = Num4.ofNat? a.toNat := by
  rw [runAt, natAt_zero_cons]

theorem setAt_one_cons (a b : Byte) (p : List Byte) : setAt 1 (a :: b :: p) = Num4.ofNat? b.toNat := by
  rw [setAt, natAt_succ_cons, natAt_zero_cons]

/-! ### Proves in progress (R37, R114) -/

theorem ProveState.recordedSet_isSome {p : ProveState} : p.recordedSet.isSome = true ↔ p ≠ .none ∧ p ≠ .queued := by
  cases p <;> simp [ProveState.recordedSet]

theorem State.proveInProgress_eq_true :
    s.proveInProgress = true ↔ ∃ r, (s.prove r).state ≠ .none ∧ (s.prove r).state ≠ .queued := by
  simp only [State.proveInProgress, List.any_eq_true, ProveState.recordedSet_isSome]
  exact exists_congr fun r => and_iff_right r.mem_all

/-! ### CONFIGURE_PROVER and CLEAR_SHIFT -/

theorem configureProverRequest_out_of_range {p : List Byte} (h : (proverConfigOf p).inRange = false) :
    configureProverRequest p s = s.refuse .refusedRange := by
  simp [configureProverRequest, h]

/-- With every field in range a CONFIGURE_PROVER waits for nothing but the end of the proves in progress (R114). -/
theorem configureProverRequest_in_range {p : List Byte} (h : (proverConfigOf p).inRange = true) :
    configureProverRequest p s = if s.proveInProgress then s.refuse .refusedState
      else ({ s with prover := { s.prover with config := some (proverConfigOf p) } } : State).answerDone [] := by
  simp [configureProverRequest, h]

theorem clearShiftRequest_out_of_range {p : List Byte} (h : runAt 0 p = none ∨ setAt 1 p = none) :
    clearShiftRequest p s = s.refuse .refusedRange := by
  unfold clearShiftRequest
  split
  · next hr hk =>
    rw [hr, hk] at h
    exact absurd h (by simp)
  · rfl

theorem clearShiftRequest_in_range {p : List Byte} (hr : runAt 0 p = some r) (hk : setAt 1 p = some k) :
    clearShiftRequest p s = if (s.prove r).state.recordedSet.isSome then s.refuse .refusedInUse
      else (s.setShift r k 1000000).answerDone (field 4 (s.shift r k)) := by
  rw [clearShiftRequest, hr, hk]

/-- Settles O44: each request meets its length, and its owner takes one branch for each clause. -/
theorem configureProverAndClearShift : Obligations.ConfigureProverAndClearShift := by
  refine ⟨fun s f p hreq hp => ?_, fun s f a b hreq => ?_⟩
  · have hexec : ∀ {x}, configureProverRequest p s.popHead = x → exec .configureProver s = .next (x.conclude f) :=
      fun hx => congrArg Host.Outcome.next (hx ▸ State.request_fits hreq configureProverRequest (by decide)
        (by rw [hp]; rfl))
    refine ⟨fun hout => hexec (configureProverRequest_out_of_range hout), fun r k rho count hin hprove => ?_,
      fun hin hidle => ?_⟩
    · have hbusy : s.popHead.proveInProgress = true := State.proveInProgress_eq_true.2 ⟨r, by
        show (s.prove r).state ≠ .none ∧ (s.prove r).state ≠ .queued
        obtain ⟨_, _, h⟩ | ⟨_, _, h⟩ := hprove <;> simp [h]⟩
      have howner := configureProverRequest_in_range (s := s.popHead) hin
      rw [if_pos hbusy] at howner
      exact hexec howner
    · have hfree : ¬ s.popHead.proveInProgress = true := fun h => by
        obtain ⟨r, hnone, hqueued⟩ := State.proveInProgress_eq_true.1 h
        exact (hidle r).elim hnone hqueued
      have howner := configureProverRequest_in_range (s := s.popHead) hin
      rw [if_neg hfree] at howner
      exact hexec howner
  · have hexec : ∀ {x}, clearShiftRequest [a, b] s.popHead = x → exec .clearShift s = .next (x.conclude f) :=
      fun hx => congrArg Host.Outcome.next (hx ▸ State.request_fits hreq clearShiftRequest (by decide) rfl)
    refine ⟨fun hout => hexec (clearShiftRequest_out_of_range ?_), fun r k hr hk => ?_⟩
    · rwa [runAt_zero_cons, setAt_one_cons]
    · have howner := clearShiftRequest_in_range (s := s.popHead) ((runAt_zero_cons a [b]).trans hr)
        ((setAt_one_cons a b []).trans hk)
      refine ⟨fun hnone hqueued => ?_, fun hidle => ?_⟩
      · exact hexec (howner.trans (if_pos (ProveState.recordedSet_isSome.2 ⟨hnone, hqueued⟩)))
      · refine hexec (howner.trans (if_neg fun hset => ?_))
        obtain ⟨hnone, hqueued⟩ := ProveState.recordedSet_isSome.1 hset
        exact hidle.elim hnone hqueued

/-! ### REQUEST_PROVE -/

/-- A run at the tail of the prove queue (R117). -/
def State.enqueued (s : State) (r : RunNo) : State :=
  s.reproved r { s.prove r with state := .queued } (s.prover.queue ++ [r])

theorem requestProveRequest_accepted {p : List Byte} (hr : runAt 0 p = some r) (hdevice : s.mgmt.device = .measuring)
    (hconfig : s.prover.config.isNone = false) (hopen : (s.run r).state ≠ .closed)
    (hnone : (s.prove r).state = .none) : requestProveRequest p s =
      (s.enqueued r).tryHead.done ((s.enqueued r).tryHead.state.requestedBytes r) := by
  simp only [requestProveRequest, hr, hdevice, hconfig, hopen, hnone]
  rfl

theorem State.activeProve_congr (h : ∀ q, (t.prove q).state.isActive = (s.prove q).state.isActive) :
    t.activeProve = s.activeProve := by
  simp only [State.activeProve, h]

/-- A run without a prove that joins the queue leaves the prover as busy or free as it was. -/
theorem State.activeProve_enqueued (hnone : (s.prove r).state = .none) :
    (s.enqueued r).activeProve = s.activeProve := State.activeProve_congr fun q => by
  rw [State.enqueued, State.prove_reproved]
  split
  · next h =>
    rw [h, hnone]
    rfl
  · rfl

/-- Settles O45: the run joins the tail, and the try of the head finds the prover busy or that run alone. -/
theorem requestProve : Obligations.RequestProve := by
  intro s f a r c b hreq hr hdevice hconfig hb hnone
  set v := s.popHead.enqueued r
  have hactive : v.activeProve = s.activeProve := State.activeProve_enqueued (s := s.popHead) hnone
  have hself : v.prove r = { s.prove r with state := .queued } := (State.prove_reproved ..).trans (if_pos rfl)
  have hother : ∀ q, q ≠ r → v.prove q = s.prove q := fun q hq => (State.prove_reproved ..).trans (if_neg hq)
  have hexec : (s.run r).state ≠ .closed → exec .requestProve s =
      .next (v.tryHead.finish.queueResponse f .done (v.tryHead.state.requestedBytes r)) := fun hopen => by
    have howner := requestProveRequest_accepted (s := s.popHead) ((runAt_zero_cons a []).trans hr) hdevice
      (by rw [show s.popHead.prover.config = some c from hconfig]; rfl) hopen hnone
    refine congrArg Host.Outcome.next ((State.request_fits hreq requestProveRequest (by decide) rfl).trans ?_)
    rw [howner]
    rfl
  have hnoted := v.tryHead.finish_noted
  have hproved := v.tryHead_proved
  have hshifts : v.tryHead.finish.shifts = s.shifts := hnoted.shifts.trans hproved.shifts
  have hprove : ∀ q, v.tryHead.finish.prove q = v.tryHead.state.prove q := State.prove_congr hnoted.prover
  have htry : s.activeProve = none → s.prover.queue = [] → v.tryHead = tryQueue [r] v := fun hfree hqueue => by
    have hlist : v.prover.queue = [r] := congrArg (· ++ [r]) hqueue
    rw [State.tryHead, hactive, hfree, hlist]
    rfl
  have hrest : s.activeProve = none → s.prover.queue = [] → ∀ q, q ≠ r →
      v.tryHead.finish.prove q = s.prove q := fun hfree hqueue q hq => by
    rw [hprove, htry hfree hqueue, tryQueue_prove_of_not_mem (by simpa using hq), hother q hq]
  refine ⟨fun q hbusy hopen => ?_, fun hfree hqueue hmetering => ?_, fun hfree hqueue hidle => ?_⟩
  · have hstays : v.tryHead = v.work := if_pos (by rw [hactive, hbusy]; rfl)
    rw [hstays] at hexec
    exact ⟨_, hexec hopen, rfl, congrArg ProveRecord.state hself, hother, rfl, rfl⟩
  · obtain ⟨hempty, hstarted⟩ := tryQueue_metering (s := v) (rest := []) hmetering hb hconfig
    refine ⟨_, hexec (by rw [hmetering]; decide), ?_, ?_, hrest hfree hqueue, hshifts⟩
    · exact (congrArg ProverUnit.queue hnoted.prover).trans ((htry hfree hqueue).symm ▸ hempty)
    · refine (congrArg ProveRecord.state (hprove r)).trans ?_
      rw [htry hfree hqueue]
      exact hstarted
  · have hskipped := tryQueue_not_metering (s := v) (q := r) (rest := [])
      (by rw [show (v.run r).state = .idle from hidle]; decide)
    refine ⟨_, hexec (by rw [hidle]; decide), ?_, ?_, hrest hfree hqueue, hshifts⟩
    · refine (congrArg ProverUnit.queue hnoted.prover).trans ?_
      rw [htry hfree hqueue, hskipped]
      rfl
    · refine (hprove r).trans ?_
      rw [htry hfree hqueue, hskipped, tryQueue_prove_of_not_mem List.not_mem_nil, State.endRecord_prove_self, hself]
      rfl

/-! ### The end of a prove pending acceptance -/

theorem State.endProve_idle (h : (s.prove r).state.isActive = false) (o : ProveOutcome) (y : Option ProveResult) :
    s.endProve r o y = s.endRecord r o y := by
  simp [State.endProve, h]

theorem State.endProve_prove_of_ne (h : (s.prove r).state.isActive = false) (o : ProveOutcome)
    (y : Option ProveResult) {q : RunNo} (hq : q ≠ r) : (s.endProve r o y).state.prove q = s.prove q := by
  rw [State.endProve_idle h, State.endRecord_prove_of_ne hq]

/-- The last outcome keeps the recorded set, the count and the result of a prove pending acceptance (R119). -/
theorem State.endProve_pending {x : ProveResult}
    (h : (s.prove r).state = .pendingAccept k rho count x timer) (o : ProveOutcome) :
    (s.endProve r o none).state.prove r =
      ⟨.none, some ⟨o, s.mgmt.stationTime, some k, some count, some x⟩⟩ := by
  rw [State.endProve_idle (by rw [h]; rfl), State.endRecord_prove_self, h]
  rfl

theorem acceptProveRequest_pending {p : List Byte} {x : ProveResult} (hr : runAt 0 p = some r)
    (h : (s.prove r).state = .pendingAccept k rho count x timer) : acceptProveRequest p s =
      ((s.applyShift r k x.shift).endProve r .accepted none).done
        (byte ProveOutcome.accepted.code ++ field 4 x.shift) := by
  simp only [acceptProveRequest, State.onPending, hr, h]

theorem rejectProveRequest_pending {p : List Byte} {x : ProveResult} (hr : runAt 0 p = some r)
    (h : (s.prove r).state = .pendingAccept k rho count x timer) : rejectProveRequest p s =
      (s.endProve r .rejected none).done (byte ProveOutcome.rejected.code ++ field 4 x.shift) := by
  simp only [rejectProveRequest, State.onPending, hr, h]

theorem exec_acceptTimerExpiry_pending {x : ProveResult} (hheld : s.held = false)
    (h : (s.prove r).state = .pendingAccept k rho count x timer) :
    exec (.acceptTimerExpiry r) s = .next ((s.passTo timer).endProve r .expired none).finish := by
  show Host.Outcome.next (s.whenRunning _) = _
  simp only [State.whenRunning, hheld, h]
  rfl

/-- An applied shift is written and listed in the active batch (R130). -/
theorem State.applyShift_eq {b : BatchEntry} {rest : List BatchEntry} (hdevice : s.mgmt.device ≠ .uncommissioned)
    (h : s.batch.schedule = b :: rest) (x : Nat) : s.applyShift r k x =
      (s.setShift r k x).setSchedule (b.listProve ⟨r, x, s.mgmt.stationTime⟩ :: rest) :=
  State.mapActive_eq (s := s.setShift r k x) (State.uncommissioned_eq_false.2 hdevice) h _

theorem BatchEntry.listProve_of_room {b : BatchEntry} (h : b.proves.length < 8) (p : ProveApplied) :
    b.listProve p = { b with proves := b.proves ++ [p] } := if_pos h

theorem BatchEntry.listProve_of_full {b : BatchEntry} (h : 8 ≤ b.proves.length) (p : ProveApplied) :
    b.listProve p = { b with further := if b.further < 255 then b.further + 1 else 255 } := by
  rw [BatchEntry.listProve, if_neg (Nat.not_lt.2 h), saturate_succ]

/-- Settles O46: in each event one prove pending acceptance ends, after its shift is applied where it is accepted. -/
theorem pendingProveEnds : Obligations.PendingProveEnds := by
  intro s r k rho count x expiry hpending
  refine ⟨fun f a b rest hreq hr hdevice hsched => ?_, fun f a hreq hr => ?_, fun hheld => ?_⟩
  · set u := s.popHead.applyShift r k x.shift
    have happlied : u = (s.popHead.setShift r k x.shift).setSchedule
        (b.listProve ⟨r, x.shift, s.mgmt.stationTime⟩ :: rest) := State.applyShift_eq (s := s.popHead) hdevice hsched _
    have hprove : ∀ q, u.prove q = s.prove q := State.prove_congr (s.popHead.applyShift_prover r k x.shift)
    have hpending' : (u.prove r).state = .pendingAccept k rho count x expiry := by rw [hprove]; exact hpending
    have hmgmt : u.mgmt = s.mgmt := by rw [happlied]; rfl
    set w := u.endProve r .accepted none
    have hexec : exec .acceptProve s = .next (w.finish.queueResponse f .done
        (byte ProveOutcome.accepted.code ++ field 4 x.shift)) := by
      refine congrArg Host.Outcome.next ((State.request_fits hreq acceptProveRequest (by decide) rfl).trans ?_)
      rw [acceptProveRequest_pending (s := s.popHead) ((runAt_zero_cons a []).trans hr) hpending]
      rfl
    have hnoted := w.finish_noted
    have hproved : u.Proved w.state := u.endProve_proved r .accepted none
    have hbatch : w.finish.batch.schedule = b.listProve ⟨r, x.shift, s.mgmt.stationTime⟩ :: rest := by
      rw [hnoted.batch, hproved.batch, happlied]
      rfl
    refine ⟨_, hexec, ?_, fun hroom => ?_, fun hfull => ?_, ?_, fun q hq => ?_, ?_, ?_⟩
    · exact (hnoted.shifts.trans hproved.shifts).trans (by rw [happlied]; rfl)
    · exact hbatch.trans (by rw [BatchEntry.listProve_of_room hroom])
    · exact hbatch.trans (by rw [BatchEntry.listProve_of_full hfull])
    · rw [← hmgmt]
      exact (State.prove_congr hnoted.prover r).trans (State.endProve_pending hpending' .accepted)
    · refine (State.prove_congr hnoted.prover q).trans (Eq.trans ?_ (hprove q))
      exact State.endProve_prove_of_ne (by rw [hpending']; rfl) _ _ hq
    · exact (hnoted.chain.trans hproved.chain).trans (by rw [happlied]; rfl)
    · exact (hnoted.totals.trans hproved.totals).trans (by rw [happlied]; rfl)
  · set w := s.popHead.endProve r .rejected none
    have hexec : exec .rejectProve s = .next (w.finish.queueResponse f .done
        (byte ProveOutcome.rejected.code ++ field 4 x.shift)) := by
      refine congrArg Host.Outcome.next ((State.request_fits hreq rejectProveRequest (by decide) rfl).trans ?_)
      rw [rejectProveRequest_pending (s := s.popHead) ((runAt_zero_cons a []).trans hr) hpending]
      rfl
    have hnoted := w.finish_noted
    have hproved := s.popHead.endProve_proved r .rejected none
    refine ⟨_, hexec, hnoted.shifts.trans hproved.shifts, hnoted.batch.trans hproved.batch, ?_, fun q hq => ?_⟩
    · exact (State.prove_congr hnoted.prover r).trans (State.endProve_pending (s := s.popHead) hpending .rejected)
    · exact (State.prove_congr hnoted.prover q).trans (State.endProve_prove_of_ne (s := s.popHead)
        (by rw [show (s.popHead.prove r).state = _ from hpending]; rfl) _ _ hq)
  · set w := (s.passTo expiry).endProve r .expired none
    have hnoted := w.finish_noted
    have hproved := (s.passTo expiry).endProve_proved r .expired none
    refine ⟨_, exec_acceptTimerExpiry_pending hheld hpending, hnoted.now.trans hproved.now,
      hnoted.shifts.trans hproved.shifts, ?_, fun q hq => ?_⟩
    · exact (State.prove_congr hnoted.prover r).trans
        (State.endProve_pending (s := s.passTo expiry) hpending .expired)
    · exact (State.prove_congr hnoted.prover q).trans (State.endProve_prove_of_ne (s := s.passTo expiry)
        (by rw [show ((s.passTo expiry).prove r).state = _ from hpending]; rfl) _ _ hq)

/-! ### The end of an ACTIVE and of a QUEUED prove -/

theorem exec_passTimerExpiry_active {window : List PassRecord} (hheld : s.held = false)
    (hsome : s.activeProve = some r) (h : (s.prove r).state = .active k rho count window timer) :
    exec .passTimerExpiry s = .next ((s.passTo timer).endProve r .abortedTimeout none).finish := by
  show Host.Outcome.next (s.whenRunning _) = _
  simp only [State.whenRunning, hheld, hsome, h]
  rfl

/-- A CANCEL_PROVE ends an ACTIVE or a QUEUED prove (R135). -/
theorem exec_cancelProve_ends (hreq : s.Requests 23 f [a]) (hr : Num4.ofNat? a.toNat = some r)
    (h : (s.prove r).state = .queued ∨ (s.prove r).state.isActive = true) :
    exec .cancelProve s = .next ((s.popHead.endProve r .abortedRequest none).finish.queueResponse f .done
      (byte ProveOutcome.abortedRequest.code)) := by
  have howner : cancelProveRequest [a] s.popHead =
      (s.popHead.endProve r .abortedRequest none).done (byte ProveOutcome.abortedRequest.code) := by
    cases hp : (s.popHead.prove r).state with
    | none | pendingAccept =>
      rw [show (s.prove r).state = _ from hp] at h
      simp [ProveState.isActive] at h
    | queued | active => simp only [cancelProveRequest, runAt_zero_cons, hr, hp]
  refine congrArg Host.Outcome.next ((State.request_fits hreq cancelProveRequest (by decide) rfl).trans ?_)
  rw [howner]
  rfl

/-- Settles O47: the ACTIVE prove ends by `endProve_active`, and a QUEUED one leaves the queue without a try. -/
theorem activeProveEnds : Obligations.ActiveProveEnds := by
  refine ⟨fun s r k rho count window expiry hact hqueue => ⟨fun hheld hsome => ?_, fun f a hreq hr => ?_⟩,
    fun s f a r hreq hr hqueued => ?_⟩
  · set u := s.passTo expiry
    obtain ⟨hself, hhanded⟩ := State.endProve_active (s := u) hact (hqueue.imp id fun h => h.of_prover rfl)
      .abortedTimeout none
    have hnoted := (u.endProve r .abortedTimeout none).finish_noted
    have hproved := u.endProve_proved r .abortedTimeout none
    have hfrom : s.HandedOn (u.endProve r .abortedTimeout none).state u.now :=
      hhanded.of_before rfl rfl (fun _ _ => rfl) fun b hb => ⟨b, hb, rfl, rfl⟩
    exact ⟨_, exec_passTimerExpiry_active hheld hsome hact, hnoted.now.trans hproved.now,
      (State.prove_congr hnoted.prover r).trans hself, hfrom.to_after hnoted.prover,
      hnoted.shifts.trans hproved.shifts, hnoted.batch.trans hproved.batch⟩
  · obtain ⟨hself, hhanded⟩ := State.endProve_active (s := s.popHead) hact
      (hqueue.imp id fun h => h.of_prover rfl) .abortedRequest none
    have hnoted := (s.popHead.endProve r .abortedRequest none).finish_noted
    have hproved := s.popHead.endProve_proved r .abortedRequest none
    have hfrom : s.HandedOn (s.popHead.endProve r .abortedRequest none).state s.now :=
      hhanded.of_before rfl rfl (fun _ _ => rfl) fun b hb => ⟨b, hb, rfl, rfl⟩
    exact ⟨_, exec_cancelProve_ends hreq hr (.inr (by rw [hact]; rfl)),
      (State.prove_congr hnoted.prover r).trans hself, hfrom.to_after hnoted.prover,
      hnoted.shifts.trans hproved.shifts, hnoted.batch.trans hproved.batch⟩
  · have hidle : (s.popHead.prove r).state.isActive = false := by
      rw [show (s.popHead.prove r).state = .queued from hqueued]
      rfl
    have hnoted := (s.popHead.endProve r .abortedRequest none).finish_noted
    have hproved := s.popHead.endProve_proved r .abortedRequest none
    refine ⟨_, exec_cancelProve_ends hreq hr (.inl hqueued), ?_, ?_, fun q hq => ?_,
      hnoted.shifts.trans hproved.shifts, hnoted.batch.trans hproved.batch⟩
    · refine (congrArg ProverUnit.queue hnoted.prover).trans ?_
      rw [State.endProve_idle hidle]
      rfl
    · refine (State.prove_congr hnoted.prover r).trans ?_
      rw [State.endProve_idle hidle, State.endRecord_prove_self,
        show (s.popHead.prove r).state = .queued from hqueued]
      rfl
    · exact (State.prove_congr hnoted.prover q).trans (State.endProve_prove_of_ne hidle _ _ hq)

end Sys2Proof.Machine
end
